-- ==== Sys2Proof/Word.lean ====
section
/-! DEFINITION. The byte and the 64-bit word of the device (chapter 0, Notation): the two bit-vector types that the
link, the memory and the cue engine use as bits. -/
namespace Sys2Proof

/-- One byte, as it travels on the Dygazu link and as memory holds it (R4). -/
abbrev Byte := BitVec 8

/-- A 64-bit word: a cue register (R417). -/
abbrev Word := BitVec 64

end Sys2Proof
end

