-- ==== Sys2Proof/Syntax.lean ====
section
/-! DEFINITION. The commands of the block: one constructor of `Instr` per row of spec/opcode_table.json. A command is
a frame on the Dygazu pins, a happening inside the device, at its ports or pins, or a cue instruction of a context.
An operand `at_` is the TBC value at which a data-plane happening takes place (log entry 2). -/
namespace Sys2Proof

/-- A request frame as its bytes came in (chapter 2, Frame layout). `crc` is the CRC field as received. `inTime` says
that the done flag of its bridge work, if it has any, was accepted by the last turnaround edge (R19): how many host
clocks the data plane needed is the host's clock and no part of the state. `gap` counts further edges clocked with the
frame (idle edges before it, edges after its settle). -/
structure Frame where
  mgr : BitVec 8
  wrk : BitVec 8
  seq : BitVec 4
  index : BitVec 16
  sub : BitVec 8
  ten : BitVec 8
  len : BitVec 16
  payload : List Byte
  crc : BitVec 32
  inTime : Bool
  gap : Nat
  deriving DecidableEq, Repr


/-- What a 1 s gate measured of a candidate (R113): presence, offset in ppb, the format of its frame timing, and its
phase against the XO in ns (R115). -/
structure CandMeas where
  present : Bool
  offset : Int
  fmt : BitVec 32
  phaseNs : Int
  deriving DecidableEq, Repr

/-- Another access to the bank of a transaction (R367): its master, how many cycles after the transaction's own access it
reaches the bank, and whether it is a read-modify-write. -/
structure BankUse where
  m : Fin 20
  after : Fin 16
  rmw : Bool
  deriving DecidableEq, Repr

/-- A transaction of a crossbar master (R393): its master, transaction tag, byte address, direction, length or data.
`unit` is the input or output it serves (R236, R261). `others` are its master's other transactions outstanding at issue
(R394), `lack` the cycles for which those held the credits that it needs (R397). `rivals` are the masters whose requests
compete at the same target in that cycle (R398), `bankRivals` the accesses that reach the same bank (R367). `lock` lists the members of a locked
sequence from this one on, as (address, bytes), empty for a plain transaction (R401). `upset` is a memory error that has
come about before it: the address, and whether the word is now uncorrectable (R356). -/
structure XOp where
  m : Fin 20
  tag : BitVec 7
  addr : BitVec 36
  wr : Bool
  fetch : Bool
  len : Nat
  data : List Byte
  unit : Nat
  rivals : List (Fin 20)
  others : Fin 32
  lack : Nat
  bankRivals : List BankUse
  lock : List (BitVec 36 × Nat)
  upset : Option (BitVec 36 × Bool)
  deriving DecidableEq, Repr

/-- The outcome of a march of one physical bank (R375): distinct failing columns (up to four, and their count) and the
first failing word. -/
structure March where
  fails : Bool
  count : Nat
  word : Nat
  cols : List Nat
  deriving DecidableEq, Repr

/-- How a phase of a preserving test ended: the march of phases 1 and 4, and the accesses that a redirect held, with their
masters and cycles (R379). -/
structure PhaseEnd extends March where
  held : List (Fin 20 × Fin 17) := []
  deriving DecidableEq, Repr

/-- What a JOIN_GRANT says of time (R158): A, and by how many turns of 2^35 ticks the worker's TBC is ahead of its parent's,
which the 40-bit stamps of the exchanges cannot show (log entry 123). -/
structure GrantClock where
  a : BitVec 64
  turns : Int
  deriving DecidableEq, Repr

/-- What a receiver measured of a complete frame (R212, R213): active size, total lines and pixels, scan, period in
ticks; whether its sampling, mapping and encoding are among those accepted (R208, R210); and what the ST 352 payload ID,
if one was received, says as its standard reads it: PsF transport, agreement with the measurement, PQ or HLG. -/
structure FrameMeas where
  w : Nat
  h : Nat
  lines : Nat
  pixels : Nat
  inter : Bool
  period : Nat
  accepted : Bool
  pid : Option (BitVec 32)
  psf : Bool
  mismatch : Bool
  hdr : Bool
  crcLines : Nat
  deriving DecidableEq, Repr

/-- A colorimetry indication of a signal: RGB or YCbCr, and the range and matrix if it names them (R219). -/
structure Colour where
  rgb : Bool
  full : Option Bool
  mat : Option (Fin 3)
  deriving DecidableEq, Repr

/-- Samples of a field or a frame (R218): rows of three components as codes of `bits` bits; with `half`, components 1
and 2 have half the samples of a row (4:2:2). -/
structure Raw where
  bits : Nat
  half : Bool
  c0 : List (List Nat)
  c1 : List (List Nat)
  c2 : List (List Nat)
  deriving DecidableEq, Repr

/-- An AUX request of a source (R215). -/
inductive AuxReq where
  | edidRead (segment : BitVec 7) (offset : BitVec 8) (len : Nat)
  | otherI2c (addr : BitVec 7)
  | dpcdRead (addr : BitVec 20) (len : Nat)
  | dpcdWrite (addr : BitVec 20) (data : List Byte)
  deriving DecidableEq, Repr

/-- What a rate measurement is of (R314). -/
inductive RateOf where
  | sapRx (n : Fin 16)
  | sapTx (n : Fin 16)
  | source (s : Fin 512)
  deriving DecidableEq, Repr

/-- What a sink's DPCD and EDID report (R281, R273). -/
structure SinkCaps where
  rate : Fin 4
  lanes : Nat
  altScrambler : Bool
  edid : List Byte
  deriving DecidableEq, Repr

/-- What a lamp channel's pins show at a lamp tick: whether its sense voltage reaches half of the reference (R345), the
mean string current in mA, and the voltage at LVMON in mV (R350). -/
structure LampMeas where
  pass : Bool
  current : Nat
  lvmon : Nat
  deriving DecidableEq, Repr

/-- What a device does with a tunnel slot of a span port (R177): it sends an input of its own for a virtual input with the
kind, sampling, reserve format and channel count given; it passes another device's tunnel on; or the slot arrives here, for one
of its own virtual inputs or on its way to another port. -/
inductive SlotUse where
  | send (n : Fin 32) (kind sampling : Fin 3) (reserve : BitVec 32) (ch : Nat)
  | forward
  | arrive (v : Option (Fin 32))
  deriving DecidableEq, Repr

/-- A part of the device that takes up entries at an apply point of its own (R193); `tunnel` is a tunnel of another
device's Kickoff that comes in by, or leaves by, a slot of a span port of this one (R177). -/
inductive Part where
  | device
  | lamps
  | audio
  | output (n : Nat)
  | input (n : Nat)
  | tunnel (p slot mbps : Nat) (use : SlotUse) (on : Bool)
  deriving DecidableEq, Repr

/-- A refusal of a prepare (R192): check code, instance, demand, capacity and the object named. -/
structure Refuse where
  check : Nat
  inst : Nat := 0
  demand : Nat := 0
  cap : Nat := 0
  obj : Nat := 0
  deriving DecidableEq, Repr

/-- What other devices tell the destination of a staged tunnel (R179): whether its source is present, the source input's
tenant after the commit, and the span ports of its path: device, port, tunnels and Mbit/s active there less those
released at the commit, and lanes. -/
structure TunnelPath where
  v : Fin 32
  present : Bool
  srcTenant : Nat
  hops : List (Nat × Fin 4 × Nat × Nat × Nat)
  deriving DecidableEq, Repr

/-- A packet as a span port receives it (R149): channel, MORE, length and sequence of its SOP, its payload, the CRC-32C of
its EOP; `framed` is false on a length mismatch, a missing EOP or an SOP inside it; `from_` is the worker whose response
a CTRL packet carries upward (R168). -/
structure SpanPkt where
  ch : BitVec 8
  more : Bool
  len : Nat
  seq : BitVec 8
  data : List Byte
  crc : BitVec 32
  framed : Bool
  from_ : Nat
  deriving DecidableEq, Repr

/-- A HELLO message (R154). -/
structure HelloMsg where
  version : BitVec 8
  role : BitVec 8
  depth : BitVec 8
  lanes : BitVec 8
  serial : BitVec 64
  bus : BitVec 8
  state : BitVec 8
  deriving DecidableEq, Repr

/-- The object a subscription or mirror message names (R172). -/
structure SubKey where
  w : BitVec 8
  ten : BitVec 8
  idx : BitVec 16
  sub : BitVec 8
  deriving DecidableEq, Repr

/-- What tunnel packets deliver to a virtual input (R177, R180): the source's signal comes up or goes, a frame starts, a
frame is complete, an audio sample frame, or a number of packets lost; and what becomes of its path farther off than this
device's own links (R181): a link of it goes down, or the path is restored, and the tunnel fits it or not. -/
inductive TunnelItem where
  | lock
  | loss
  | frameStart (field2 : Bool) (main : Colour) (override : Option Colour)
  | frameEnd (field2 : Bool) (meas : Option FrameMeas) (raw : Raw)
  | audio (carried : BitVec 16) (samples : List Int) (nonAudio : BitVec 8)
  | lost (n : Nat)
  | pathDown
  | pathUp (fits : Bool)
  deriving DecidableEq, Repr

/-- What a stream says of its embedded audio: the channels that it carries, the rate code of each of the SDI audio groups 1–4, from its audio control packet, 0 for
one it does not carry (R293), and whether the DP audio InfoFrame codes LPCM (R294). -/
structure AudioForm where
  channels : BitVec 16
  groups : List Nat := [7, 7, 7, 7]
  lpcm : Bool := true
  deriving DecidableEq, Repr

/-- The straps as the board sets them (R480), the grade's maximum junction temperature in 0.1 °C (R472). -/
structure Straps where
  worker : Bool := false
  addr : BitVec 5 := 0#5
  linkmode : BitVec 2 := 0#2
  grade : Nat := 1100
  deriving DecidableEq, Repr

/-- What a data-plane start finds (R485, R376): whether each fuse copy's CRC checks, the serial number in the fuses, and the
banks that fail the cold march. -/
structure StartInfo where
  copyA : Bool
  copyB : Bool
  serial : BitVec 64
  fails : List (Fin 528 × March)
  deriving DecidableEq, Repr

/-- The commands. -/
inductive Instr where
  | nopPoll (f : Frame)
  | candidateMeasure (k : Fin 8) (m : CandMeas) (at_ : Nat)
  | referenceLoss (k : Fin 8) (at_ : Nat)
  | selectorEvaluate (phaseNs buildoutNs : Int) (at_ : Nat)
  | realignmentDone (at_ : Nat)
  | ppsEdge (passing : Bool) (at_ : Nat)
  | referenceFramePulse (k : Fin 8) (fmt : BitVec 32) (at_ : Nat)
  | crossbarTransaction (x : XOp) (at_ : Nat)
  | lockBreak (at_ : Nat)
  | classCPromotion (m : Fin 20) (t : Fin 14) (at_ : Nat)
  | scrubRead (upset : Option Bool) (at_ : Nat)
  | bankPowerReady (p : Fin 528)
  | marchSchedule (at_ : Nat)
  | preservingTestPhaseDone (r : PhaseEnd) (at_ : Nat)
  | dramRefresh (c : Fin 4) (classA : Bool)
  | mr4Poll (c : Fin 4) (rate : BitVec 5) (hot : Bool)
  | dramPatrolRead (c : Fin 4) (upset : Option Bool) (at_ : Nat)
  | dramTrainingDone (codes : List (Fin 6)) (densities : List Nat)
  | inputSignalLock (n : Fin 32) (found : List (Fin 5)) (at_ : Nat)
  | inputFrameStart (n : Fin 32) (field2 : Bool) (main : Colour) (override : Option Colour) (at_ : Nat)
  | inputFrameComplete (n : Fin 32) (field2 : Bool) (meas : Option FrameMeas) (raw : Raw) (at_ : Nat)
  | inputSignalLoss (n : Fin 32) (at_ : Nat)
  | holdExpiry (n : Fin 64)
  | writerStarved (n : Fin 32) (at_ : Nat)
  | readerSelect (e : Fin 96) (at_ : Nat)
  | auxRequest (k : Fin 8) (req : AuxReq)
  | edidHpdPulseEnd (k : Fin 8)
  | segmentTransmit (n : Fin 48) (y : Nat) (tx : Nat) (late : List Nat) (at_ : Nat)
  | audioSampleFrameArrival (n : Fin 32) (form : AudioForm) (samples : List Int) (nonAudio : BitVec 8) (at_ : Nat)
  | matrixSamplePeriod
  | sapFrameReceived (n : Fin 16) (slots : List Nat) (bclk : Nat) (nonAudio : BitVec 8) (at_ : Nat)
  | sapTxFrame (n : Fin 16) (bclk : Nat) (at_ : Nat)
  | sapClockAbsent (n : Fin 16) (tx : Bool) (at_ : Nat)
  | nonaudioHoldExpiry (feed : Fin 80) (pair : Fin 8)
  | asrcLock (s : Fin 512) (locks : Bool) (at_ : Nat)
  | rateMeasure (what : RateOf) (frames ticks : Nat) (at_ : Nat)
  | audioRingTransfer (r : Fin 16) (frames : Nat) (at_ : Nat)
  | outputFrameStart (n : Fin 48)
  | hpdPlug (n : Fin 48) (sink : SinkCaps) (at_ : Nat)
  | hpdUnplug (n : Fin 48) (at_ : Nat)
  | irqHpd (n : Fin 48) (lostLock : Bool) (at_ : Nat)
  | linkTrainingDone (n : Fin 48) (attempts : List Bool) (panel : SinkCaps) (at_ : Nat)
  | trainRetryTimer (n : Fin 48)
  | zoneStatsPublish (n : Fin 48) (at_ : Nat)
  | lampTick (meas : List LampMeas)
  | budgetRiseApply (at_ : Nat)
  | pwmPeriodStart (c : Fin 48) (m : LampMeas) (at_ : Nat)
  | openRetryBurst (c : Fin 48) (pass : Bool)
  | shortRetest (c : Fin 48) (lvmon : Nat)
  | verifyAgeExpiry (c : Fin 48)
  | thermistorSample (codes : List (BitVec 12)) (die : Int) (at_ : Nat)
  | lampGateWatchdog (c : Fin 48) (at_ : Nat)
  | neighbourTest (fails : List (Fin 48 × Fin 3)) (at_ : Nat)
  | read (f : Frame)
  | write (f : Frame)
  | blockRead (f : Frame)
  | blockWrite (f : Frame)
  | prepare (f : Frame)
  | kickoff (f : Frame)
  | whistle (f : Frame)
  | sessionOpen (f : Frame)
  | sessionClose (f : Frame)
  | rollCall (f : Frame)
  | logRead (f : Frame)
  | eventAck (f : Frame) (late : BitVec 32)
  | save (f : Frame)
  | discard (f : Frame)
  | reservedTypeFrame (f : Frame)
  | dzSelEarlyRise (ty : Fin 16) (f : Frame) (edge : Nat)
  | crcStormExit
  | frameOpenWatchdog (got : List Byte) (at_ : Nat)
  | bridgeComplete (at_ : Nat)
  | koAbandon (f : Frame)
  | koEpochWrite (f : Frame)
  | whEpochWrite (f : Frame)
  | stSaveNow (f : Frame)
  | stEraseImage (f : Frame)
  | mtpSaveDone (bad : List (Fin 128)) (low : Option Nat) (at_ : Nat)
  | subActionAdd (f : Frame)
  | subActionRemove (f : Frame)
  | tnCodeHi (t : Fin 128) (f : Frame)
  | tnCodeLo (t : Fin 128) (f : Frame)
  | tnEnableWrite (t : Fin 128) (f : Frame)
  | lockoutExpiry (t : Fin 128)
  | pwStandby (f : Frame)
  | standbyEntry (at_ : Nat)
  | pwWake (f : Frame)
  | spanEnergyWake (p : Fin 4)
  | pwDpReset (f : Frame)
  | cxControlStart (x : Fin 4) (f : Frame)
  | cxControlHalt (x : Fin 4) (f : Frame)
  | cxControlStep (x : Fin 4) (f : Frame)
  | mtRunNow (f : Frame)
  | mrProgram (f : Frame)
  | mrProgramDone (ok : Bool) (at_ : Nat)
  | lwNeighbourTest (f : Frame)
  | arPlayStart (r : Fin 16) (f : Frame)
  | arPlayStop (r : Fin 16) (f : Frame)
  | outForceSafe (n : Fin 48) (f : Frame)
  | wdHostSWrite (f : Frame)
  | hostSilenceWatchdog
  | prepareResult (answers : List (Nat × Option Refuse)) (at_ : Nat)
  | devicePrepare (paths : List TunnelPath) (at_ : Nat)
  | kickoffApplyPoint (part : Part)
  | whistleApplyPoint (part : Part)
  | spanLinkUp (p : Fin 4) (locked : BitVec 4) (at_ : Nat)
  | linkDown (p : Fin 4) (alignLost : Bool) (at_ : Nat)
  | idle (p : Fin 4)
  | align (p : Fin 4) (inStep : Bool) (at_ : Nat)
  | tsync (p : Fin 4) (seq : BitVec 8) (stamp : BitVec 40) (frac : Fin 32) (at_ : Nat)
  | delayReq (p : Fin 4) (seq : BitVec 8) (frac : Fin 32) (at_ : Nat)
  | delayRsp (p : Fin 4) (seq : BitVec 8) (stamp : BitVec 40)
  | timeExchangeTick (frac : Fin 32) (at_ : Nat)
  | credit (p : Fin 4) (ch : BitVec 8) (freed : BitVec 16) (next : BitVec 8) (at_ : Nat)
  | spanPacket (p : Fin 4) (k : SpanPkt) (at_ : Nat)
  | reliableResendTimeout (p : Fin 4) (ch : Fin 3) (at_ : Nat)
  | hello (p : Fin 4) (h : HelloMsg) (at_ : Nat)
  | helloTick (at_ : Nat)
  | joinReq (p : Fin 4) (serial : BitVec 64) (addr hops : BitVec 8) (path : BitVec 16) (at_ : Nat)
  | joinGrant (p : Fin 4) (serial : BitVec 64) (addr hops : BitVec 8) (path : BitVec 16) (clock : GrantClock) (bus : BitVec 8)
      (at_ : Nat)
  | joinRefuse (p : Fin 4) (serial : BitVec 64) (hops : BitVec 8) (path : BitVec 16) (reason : BitVec 8) (at_ : Nat)
  | joinRetryTimer (at_ : Nat)
  | leave (p : Fin 4) (reason : BitVec 8) (addrs : List (BitVec 8)) (at_ : Nat)
  | roll (p : Fin 4) (gen : BitVec 32) (at_ : Nat)
  | rollRsp (p : Fin 4) (gen : BitVec 32) (entry : List Byte) (at_ : Nat)
  | rollCallTimer (at_ : Nat)
  | rollCallTimeout (at_ : Nat)
  | subAdd (p : Fin 4) (k : SubKey) (at_ : Nat)
  | subDel (p : Fin 4) (k : SubKey) (at_ : Nat)
  | subRsp (p : Fin 4) (k : SubKey) (status : BitVec 8) (at_ : Nat)
  | subscriptionPush (ten : Fin 128) (idx : BitVec 16) (sub : BitVec 8) (at_ : Nat)
  | push (p : Fin 4) (k : SubKey) (latch : BitVec 64) (val : List Byte) (at_ : Nat)
  | evict (p : Fin 4) (k : SubKey) (latch : BitVec 64) (val : List Byte) (reason : BitVec 8) (at_ : Nat)
  | evictAck (p : Fin 4) (k : SubKey) (at_ : Nat)
  | mirrorSnoopTimer (at_ : Nat)
  | snoop (p : Fin 4) (k : SubKey) (tag : BitVec 8) (at_ : Nat)
  | snoopRsp (p : Fin 4) (k : SubKey) (tag : BitVec 8) (stale : Bool) (latch : BitVec 64) (val : List Byte) (at_ : Nat)
  | relayedFrame (ty : Fin 16) (f : Frame)
  | agentFrame (ten : Fin 128) (seq : BitVec 4)
  | tunnelPacket (v : Fin 32) (item : TunnelItem) (at_ : Nat)
  | cueBoot
  | add (x : Fin 4) (rd ra rb : Fin 16)
  | sub (x : Fin 4) (rd ra rb : Fin 16)
  | and (x : Fin 4) (rd ra rb : Fin 16)
  | or (x : Fin 4) (rd ra rb : Fin 16)
  | xor (x : Fin 4) (rd ra rb : Fin 16)
  | shl (x : Fin 4) (rd ra rb : Fin 16)
  | shr (x : Fin 4) (rd ra rb : Fin 16)
  | sra (x : Fin 4) (rd ra rb : Fin 16)
  | mul (x : Fin 4) (rd ra rb : Fin 16)
  | sltu (x : Fin 4) (rd ra rb : Fin 16)
  | slt (x : Fin 4) (rd ra rb : Fin 16)
  | addi (x : Fin 4) (rd ra : Fin 16) (imm : BitVec 16)
  | andi (x : Fin 4) (rd ra : Fin 16) (imm : BitVec 16)
  | ori (x : Fin 4) (rd ra : Fin 16) (imm : BitVec 16)
  | xori (x : Fin 4) (rd ra : Fin 16) (imm : BitVec 16)
  | shli (x : Fin 4) (rd ra : Fin 16) (n : Fin 64)
  | shri (x : Fin 4) (rd ra : Fin 16) (n : Fin 64)
  | srai (x : Fin 4) (rd ra : Fin 16) (n : Fin 64)
  | sltiu (x : Fin 4) (rd ra : Fin 16) (imm : BitVec 16)
  | slti (x : Fin 4) (rd ra : Fin 16) (imm : BitVec 16)
  | movk (x : Fin 4) (rd : Fin 16) (imm : BitVec 16) (k : Fin 4)
  | lb (x : Fin 4) (rd ra : Fin 16) (imm : BitVec 16)
  | lh (x : Fin 4) (rd ra : Fin 16) (imm : BitVec 16)
  | lw (x : Fin 4) (rd ra : Fin 16) (imm : BitVec 16)
  | ld (x : Fin 4) (rd ra : Fin 16) (imm : BitVec 16)
  | sb (x : Fin 4) (rs ra : Fin 16) (imm : BitVec 16)
  | sh (x : Fin 4) (rs ra : Fin 16) (imm : BitVec 16)
  | sw (x : Fin 4) (rs ra : Fin 16) (imm : BitVec 16)
  | sd (x : Fin 4) (rs ra : Fin 16) (imm : BitVec 16)
  | xchg (x : Fin 4) (rd ra rb : Fin 16) (broken : Bool)
  | beq (x : Fin 4) (ra rb : Fin 16) (off : BitVec 16)
  | bne (x : Fin 4) (ra rb : Fin 16) (off : BitVec 16)
  | blt (x : Fin 4) (ra rb : Fin 16) (off : BitVec 16)
  | bge (x : Fin 4) (ra rb : Fin 16) (off : BitVec 16)
  | bltu (x : Fin 4) (ra rb : Fin 16) (off : BitVec 16)
  | bgeu (x : Fin 4) (ra rb : Fin 16) (off : BitVec 16)
  | jal (x : Fin 4) (rd : Fin 16) (off : BitVec 20)
  | jalr (x : Fin 4) (rd ra : Fin 16) (imm : BitVec 16)
  | tbc (x : Fin 4) (rd : Fin 16)
  | waitt (x : Fin 4) (ra : Fin 16)
  | waittDone (x : Fin 4)
  | waitf (x : Fin 4) (rd ra : Fin 16)
  | waitfDone (x : Fin 4)
  | sig (x : Fin 4) (mask : BitVec 4) (imm : BitVec 16)
  | waits (x : Fin 4) (rd : Fin 16) (imm : BitVec 16)
  | waitsDone (x : Fin 4)
  | gets (x : Fin 4) (rd : Fin 16)
  | drd (x : Fin 4) (rd ra : Fin 16)
  | dwr (x : Fin 4) (ra rb : Fin 16)
  | cuePortComplete (x : Fin 4) (at_ : Nat)
  | prep (x : Fin 4)
  | kick (x : Fin 4) (ra : Fin 16)
  | whis (x : Fin 4) (ra : Fin 16)
  | kwait (x : Fin 4) (rd : Fin 16) (w : Fin 2)
  | kwaitDone (x : Fin 4)
  | blit (x : Fin 4) (ra : Fin 16)
  | blitExecute (rows : Nat) (at_ : Nat)
  | bwait (x : Fin 4)
  | bwaitDone (x : Fin 4)
  | play (x : Fin 4) (ra rb : Fin 16)
  | post (x : Fin 4) (val : BitVec 8)
  | nop (x : Fin 4)
  | halt (x : Fin 4)
  | illegalInstruction (x : Fin 4) (word : BitVec 32)
  | cueMemoryResponse (x : Fin 4) (at_ : Nat)
  | powerOnReset
  | porRelease (straps : Straps)
  | railGroupGood (g : Fin 4) (die : Int)
  | startDieHoldRelease (die : Int)
  | dataPlaneStart (info : StartInfo)
  | enableInstant (at_ : Nat)
  | railFault (g : Fin 4) (at_ : Nat)
  | railFaultRestart
  | xoLoss (at_ : Nat)
  | xoRestart
  | thermalWarning (die : Int) (at_ : Nat)
  | thermalTrip (die : Int) (at_ : Nat)
  | thermalRestart (die : Int)
  | thermalWarningClear (die : Int) (at_ : Nat)
  | badSyncFrame (first8 : BitVec 8) (edges : Nat)
  | badControlBlock (p : Fin 4) (crcBad : Bool) (typ : BitVec 8) (at_ : Nat)
  | alignInterval (p : Fin 4)
  | creditInterval (p : Fin 4)
  | jtagTckEdge (tms tdi : Bool) (pins : List Bool)
  | trstNAssert
  deriving DecidableEq, Repr

end Sys2Proof
end

