-- ==== Sys2Proof/Config.lean ====
section
/-! DEFINITION. What an implementation fixes and the manual leaves open: the constants of the part, and the free
values (opaque constants with no body, so that no proof can see what they are). -/
namespace Sys2Proof.Config

/-- Part identity (R1). -/
def vendor : Nat := 0x5957
def part : Nat := 0x4832
def stepping : Nat := 0xB0

/-- Ticks of the 27 MHz timebase in a second and in a millisecond. -/
def ticksPerSec : Nat := 27000000
def ticksPerMs : Nat := 27000

/-- Lockout length in ticks of TBC (R449). -/
def lockoutTicks : Nat := 1620000000

/-- Entries of the staging store (R86). -/
def stagingCapacity : Nat := 2048

/-- Bridge queue length and the share of one tenant (R53). -/
def queueMax : Nat := 8
def queueTenantMax : Nat := 4

/-- Bytes of the default IN_EDID image that R524 leaves to the part (log entry 10). A free value. -/
opaque edidByte : Nat → Byte

/-- The boot ROM's 64 KiB (R355, R421): the manual gives the program's effect, not its bytes (log entry 12). A free value. -/
opaque romByte : Nat → Byte

/-- What a crossbar read of the data-plane register space T12 returns: the manual gives no layout (log entry 13). A free
value, drawn anew with each access. -/
opaque regByte : Nat → Nat → Byte

/-- Whether a DRAM access found its row open (R392; log entry 14). A free value. -/
opaque rowOpen : Nat → Bool

/-- The conversion error R218 allows each component of a pixel, in LSB; the model holds it to ±2 (log entry 16). -/
opaque cscError : Nat → Nat → Int

/-- The DPCD bytes that the DP 1.4 standard lays down and the manual does not give (R215; log entry 17). A free value. -/
opaque dpcdByte : Nat → Nat → Byte

/-- The bytes of the field history area of a ring, whose layout the manual does not give (R223; log entry 18). -/
opaque historyByte : Nat → Nat → Byte

/-- What SEL_BUILDOUT_NS shows of a build-out, in ps, that no I32 of ns holds: the manual states no value (R122; log entry 115). -/
opaque buildoutOver : Int → BitVec 32

/-- Which of the built-in Lanczos coefficients of a phase are rounded up so that they sum to 2048: those of the lowest rank, by axis
(0 horizontal, 1 vertical), phase and tap. The manual gives no rounding (R246; log entry 20). -/
opaque lanczosRank : Nat → Nat → Nat → Nat

/-- A sum of the layer matrix's three products that no 32-bit signed number holds: the manual states no result (R254; log entry
126). A free value. -/
opaque matrixOver : Int → Int → Int → BitVec 32

/-- An output sample of an ASRC channel (R298 gives its figures, not its values; log entry 22). A free value. -/
opaque asrcSample : Nat → Nat → BitVec 24

/-- Where in the boot ROM context 0 stands, in words, when the factory boot program ends without starting it: the manual gives
the program's effect, not its code (R422; log entry 24). A free value. -/
opaque bootPc : Nat → Nat

/-- What the factory boot program leaves in a register of context 0 that it does not clear (R422; log entry 24). -/
opaque bootReg : Nat → Nat → Word

/-- The bits that stick in a repair fuse slot whose programming fails its verify: the manual does not say (R386; log entry 31). -/
opaque fuseBits : Nat → BitVec 24

/-- The status with which MR_PROGRAM completes after a failed verify: the manual gives none (R386; log entry 31). -/
opaque fuseStatus : Nat → Fin 16

/-- The reason byte of EVICT for a case of R175 (1 removal, 2 change of owner, 3 session closed): the manual gives no codes
(log entry 28). -/
opaque evictReason : Nat → Byte

/-- What a boundary-scan cell captures where the manual does not give the signal, and the upper bits of the captured
instruction register (R512, R513; log entry 32). -/
opaque scanBit : Nat → Nat → Bool

/-- The data of a DRAM word damaged with inline ECC off, and the place of a single wrong bit in it: the manual gives neither
(R411; log entry 109). -/
opaque damageByte : Nat → Nat → Byte
opaque damageBit : Nat → Fin 256

/-- What the scrambler of a lane of a span port holds when its link comes up: the manual gives no start (R145; log entry 116).
A free value. -/
opaque scrSeed : Nat → Nat → Nat → BitVec 58

/-- A sample of component 1 or 2 of an RGB picture in a 4:2:2 tunnel: the manual gives the conversion for chroma only (R177; log
entry 117). A free value, by the draw, the component and the place. -/
opaque tunnelSample : Nat → Nat → Nat → Nat → BitVec 10

end Sys2Proof.Config
end

