-- ==== Sys2Proof/Machine/Ops.lean ====
section
/-! DEFINITION. Named operations on plain data that every block uses: sparse tables in canonical form, byte order
(R4), saturation (R69), CRC-32C (R39), bit fields, rounding. Nothing here knows a block. -/
namespace Sys2Proof.Machine

/-- A sparse table: pairs of a key and a value, keys strictly rising, no pair holding the default. -/
abbrev Tab (α : Type) := List (Nat × α)

/-- The value at key `k`, `d` where the table lists none. -/
def tabGet {α : Type} (d : α) : Tab α → Nat → α
  | [], _ => d
  | (i, v) :: t, k => if k = i then v else tabGet d t k

/-- The table with every pair at key `k` removed. -/
def tabErase {α : Type} (k : Nat) : Tab α → Tab α
  | [] => []
  | (i, v) :: t => if k = i then tabErase k t else (i, v) :: tabErase k t

/-- The table with the pair `(k, v)` put in its place by key order (no pair at `k` is expected). -/
def tabInsert {α : Type} (k : Nat) (v : α) : Tab α → Tab α
  | [] => [(k, v)]
  | (i, w) :: t => if k < i then (k, v) :: (i, w) :: t else (i, w) :: tabInsert k v t

/-- Write `v` at key `k`, keeping the canonical form: writing the default removes the pair. -/
def tabSet {α : Type} [DecidableEq α] (d : α) (t : Tab α) (k : Nat) (v : α) : Tab α :=
  if v = d then tabErase k t else tabInsert k v (tabErase k t)

/-- The value listed at key `k`, if one is. -/
def tabFind {α : Type} (t : Tab α) (k : Nat) : Option α := (t.find? (fun p => p.1 == k)).map (·.2)

/-- List `v` at key `k`. -/
def tabPut {α : Type} (t : Tab α) (k : Nat) (v : α) : Tab α := tabInsert k v (tabErase k t)

/-- The canonical form of a table: keys strictly rising and no default listed. -/
def Tab.wf {α : Type} [DecidableEq α] (d : α) : Tab α → Bool
  | [] => true
  | [(_, v)] => decide (v ≠ d)
  | (i, v) :: (j, w) :: t => decide (i < j) && decide (v ≠ d) && Tab.wf d ((j, w) :: t)

/-- Add, saturating at `m` (R69). -/
def satAdd (m a b : Nat) : Nat := min m (a + b)

/-- Maximum of an unsigned 32-bit counter. -/
def maxU32 : Nat := 0xFFFFFFFF

/-- Maximum of an unsigned 64-bit counter. -/
def maxU64 : Nat := 0xFFFFFFFFFFFFFFFF

/-- Bits `[hi:lo]` of `v` (chapter 0, Notation). -/
def bits (v hi lo : Nat) : Nat := (v >>> lo) % 2 ^ (hi + 1 - lo)

/-- Bit `i` of `v`. -/
def bitAt (v i : Nat) : Bool := (v >>> i) % 2 == 1

/-- 0 or 1. -/
def b2n (b : Bool) : Nat := if b then 1 else 0

/-- `v` with bit `i` set or cleared. -/
def putBit (v i : Nat) (b : Bool) : Nat :=
  if b then v ||| (1 <<< i) else if bitAt v i then v ^^^ (1 <<< i) else v

/-- The `n` bytes of `v`, least significant first (memory order, R4). -/
def toLE : Nat → Nat → List Byte
  | 0, _ => []
  | n + 1, v => BitVec.ofNat 8 v :: toLE n (v / 256)

/-- The `n` bytes of `v`, most significant first (link order, R4). -/
def toBE (n v : Nat) : List Byte := (toLE n v).reverse

/-- The number whose bytes, least significant first, are `l`. -/
def ofLE : List Byte → Nat
  | [] => 0
  | b :: t => b.toNat + 256 * ofLE t

/-- The number whose bytes, most significant first, are `l`. -/
def ofBE (l : List Byte) : Nat := ofLE l.reverse

/-- Byte `i` of a byte list, 0 beyond its end. -/
def byteAt (l : List Byte) (i : Nat) : Nat := (l.getD i 0#8).toNat

/-- `n` little-endian bytes of a list at offset `o`, as a number. -/
def leAt (l : List Byte) (o n : Nat) : Nat := ofLE ((l.drop o).take n)

/-- `n` big-endian bytes of a list at offset `o`, as a number. -/
def beAt (l : List Byte) (o n : Nat) : Nat := ofBE ((l.drop o).take n)

/-- `n` zero bytes. -/
def zeros (n : Nat) : List Byte := List.replicate n 0#8

/-- A list of exactly `n` bytes: cut, or filled with 0x00. -/
def padTo (n : Nat) (l : List Byte) : List Byte := (l ++ zeros (n - l.length)).take n

/-- `src` laid over `l` from offset `o`; `l` grows when `src` reaches past its end. -/
def patch (l : List Byte) (o : Nat) (src : List Byte) : List Byte :=
  l.take o ++ src ++ l.drop (o + src.length)

/-- A bit map of `n` bytes: bit `w` (byte w/8, bit w mod 8) set for each listed `w`. -/
def bitMap (n : Nat) (ws : List Nat) : List Byte :=
  toLE n (ws.foldl (fun a w => a ||| (1 <<< w)) 0)

/-- Bit `w` of a byte map. -/
def mapBit (l : List Byte) (w : Nat) : Bool := bitAt (byteAt l (w / 8)) (w % 8)

/-- Two's complement of `v` in `n` bits as an integer. -/
def toInt (n v : Nat) : Int :=
  let m := v % 2 ^ n
  if m < 2 ^ (n - 1) then Int.ofNat m else Int.ofNat m - Int.ofNat (2 ^ n)

/-- An integer as an `n`-bit two's complement pattern. -/
def ofInt (n : Nat) (i : Int) : Nat := (i % (2 ^ n : Int)).toNat

/-- An integer held to a range. -/
def clampInt (lo hi i : Int) : Int := if i < lo then lo else if hi < i then hi else i

/-- One bit of the reflected CRC-32C register (R39). -/
def crcBit (c : Nat) : Nat := if c % 2 = 1 then (c / 2) ^^^ 0x82F63B78 else c / 2

/-- One byte of CRC-32C (R39). -/
def crcByte (c : Nat) (b : Byte) : Nat :=
  crcBit (crcBit (crcBit (crcBit (crcBit (crcBit (crcBit (crcBit (c ^^^ b.toNat))))))))

/-- CRC-32C of a byte list: initial value and final XOR 0xFFFF_FFFF, reflected in and out (R39). -/
def crc32c (l : List Byte) : Nat := (l.foldl crcByte 0xFFFFFFFF) ^^^ 0xFFFFFFFF

/-- The quotient rounded up. -/
def ceilDiv (a b : Nat) : Nat := (a + b - 1) / b

/-- The quotient rounded to nearest, halves up. -/
def roundDiv (a b : Nat) : Nat := (2 * a + b) / (2 * b)

/-- Whether `a ≤ x < a + n`. -/
def inRange (x a n : Nat) : Bool := decide (a ≤ x) && decide (x < a + n)

/-- Update the elements of a list that satisfy `p`. -/
def mapIf {α : Type} (p : α → Bool) (f : α → α) (l : List α) : List α := l.map (fun a => if p a then f a else a)

/-- The last `n` elements of a list. -/
def lastN {α : Type} (n : Nat) (l : List α) : List α := l.drop (l.length - n)

/-- Replace the element at a place of a list. -/
def setAt {α : Type} (l : List α) (i : Nat) (a : α) : List α := l.set i a

/-- Add a value to a list kept without repeats. -/
def addNew {α : Type} [DecidableEq α] (a : α) (l : List α) : List α := if a ∈ l then l else l ++ [a]

/-- Integer division rounded to nearest, halves away from zero. -/
def roundDivI (a : Int) (b : Nat) : Int :=
  if a < 0 then - Int.ofNat (roundDiv a.natAbs b) else Int.ofNat (roundDiv a.natAbs b)

end Sys2Proof.Machine
end

