-- ==== Sys2Proof/Machine/Edid.lean ====
section
/-! DEFINITION. Frame periods and rate codes (chapter 4, R212), and the default IN_EDID (R524): an image of which the manual fixes
the properties and not the bytes. The layout of an EDID 1.4 base block and of a CTA-861 extension is that of their standards
(log entry 10). -/
namespace Sys2Proof.Machine

/-- Frame period P_c in ticks by rate code (chapter 4). -/
def framePeriod (c : Nat) : Nat :=
  [450000, 1126125, 1125000, 1080000, 900900, 900000, 540000, 450450, 450000].getD c 450000

/-- The rate code whose period lies within ±300 ppm of a measured mean; 0 if none (R212). -/
def rateCodeOf (mean : Nat) : Nat :=
  ((List.range 8).find? (fun i =>
    let p := framePeriod (i + 1)
    decide ((Int.ofNat mean - Int.ofNat p).natAbs * 1000000 ≤ 300 * p))).map (· + 1) |>.getD 0

/-! ## What an EDID describes -/

/-- A detailed timing: active size, scan, rate code and pixel rate. -/
structure Detailed where
  w : Nat
  h : Nat
  inter : Bool
  code : Nat
  clock : Nat
  deriving DecidableEq, Repr

/-- The detailed timing descriptor at byte `o`. -/
def detailedAt (l : List Byte) (o : Nat) : Detailed :=
  let b := fun i => byteAt l (o + i)
  let clock := leAt l o 2 * 10000
  let w := b 2 + b 4 / 16 * 256; let hb := b 3 + b 4 % 16 * 256
  let v := b 5 + b 7 / 16 * 256; let vb := b 6 + b 7 % 16 * 256
  let inter := decide (128 ≤ b 17)
  let lines := if inter then 2 * (v + vb) + 1 else v + vb
  { w := w, h := if inter then 2 * v else v, inter := inter, clock := clock,
    code := rateCodeOf (roundDiv (27000000 * (w + hb) * lines) (max 1 clock)) }

/-- A detailed timing that R524 admits: one of the two sizes, at a rate code, at most 600 MHz. -/
def Detailed.ok (d : Detailed) : Bool :=
  ((d.w == 1920 && d.h == 1080) || (d.w == 3840 && d.h == 2160)) && d.code != 0 && decide (d.clock ≤ 600000000)

/-- A display descriptor that names no timing: name, range limits, text, serial or dummy. -/
def plainDescriptor (l : List Byte) (o : Nat) : Bool :=
  leAt l o 3 == 0 && [0xFC, 0xFD, 0xFE, 0xFF, 0x10].contains (byteAt l (o + 3))

/-- The CTA-861 video codes of 1920 × 1080 and 3840 × 2160 at a rate code. -/
def videoCodes : List Nat := [5, 16, 20, 31, 32, 33, 34, 93, 94, 95, 96, 97, 103, 104, 105, 106, 107]

/-- A data block of the extension that declares no further timing and no vendor's extension: its tag and first bytes. -/
def blockOk (tag : Nat) (body : List Byte) : Bool :=
  if tag = 2 then body.all (fun b => videoCodes.contains (if 129 ≤ b.toNat ∧ b.toNat ≤ 192 then b.toNat - 128 else b.toNat))
  else tag == 1 || tag == 4 || (tag == 7 && [0, 5, 6].contains (byteAt body 0))

/-- The data blocks from byte `o` up to `e`. -/
def blocksOk (l : List Byte) : Nat → Nat → Nat → Bool
  | 0, _, _ => false
  | fuel + 1, o, e =>
    if e ≤ o then o == e
    else
      let n := byteAt l o % 32
      blockOk (byteAt l o / 32) ((l.drop (o + 1)).take n) && blocksOk l fuel (o + 1 + n) e

/-- The properties that R524 asks of a 512-byte image beside its fixed bytes, checksums and zeros: no timing but those admitted,
the preferred one first. -/
def edidOk (l : List Byte) : Bool :=
  let first := detailedAt l 54
  let d := byteAt l 130
  first.ok && first.w == 1920 && !first.inter && first.code == 8 &&
  leAt l 35 3 == 0 &&
  (List.range 8).all (fun i => let p := (byteAt l (38 + 2 * i), byteAt l (39 + 2 * i)); p == (1, 1) || p == (209, 192)) &&
  [72, 90, 108].all (fun o => plainDescriptor l o || (detailedAt l o).ok) &&
  decide (1 ≤ byteAt l 129) && (d == 0 || (decide (4 ≤ d) && decide (d ≤ 127) && blocksOk l 128 132 (128 + d) &&
    (List.range 6).all (fun i => decide (128 + d + 18 * i + 18 > 255) || leAt l (128 + d + 18 * i) 2 == 0 || (detailedAt l (128 + d + 18 * i)).ok)))

/-- An image with the bytes that R524 fixes and `f` at the others; the checksums make each block sum to 0. -/
def edidImage (f : Nat → Byte) : List Byte :=
  let free := fun (a n : Nat) => (List.range n).map (fun i => f (a + i))
  let sum := fun (l : List Byte) => BitVec.ofNat 8 (256 - (l.foldl (fun a b => a + b.toNat) 0) % 256)
  let base := [0x00#8, 0xFF#8, 0xFF#8, 0xFF#8, 0xFF#8, 0xFF#8, 0xFF#8, 0x00#8] ++ free 8 10 ++ [1#8, 4#8] ++ free 20 106 ++ [1#8]
  let ext := 2#8 :: free 129 126
  base ++ [sum base] ++ ext ++ [sum ext] ++ zeros 256

/-- The free bytes of one image that has the properties: 1920 × 1080 at 60 Hz and 148.5 MHz, no other timing. -/
def edidPlain (i : Nat) : Byte :=
  if inRange i 38 16 then 1#8
  else if inRange i 54 18 then
    [0x02#8, 0x3A#8, 0x80#8, 0x18#8, 0x71#8, 0x38#8, 0x2D#8, 0x40#8, 0x58#8, 0x2C#8, 0x45#8, 0#8, 0#8, 0#8, 0#8, 0#8, 0#8, 0x1E#8].getD (i - 54) 0#8
  else if i = 75 ∨ i = 93 ∨ i = 111 then 0x10#8
  else if i = 129 then 3#8
  else if i = 130 then 4#8
  else 0#8

/-- The default IN_EDID (R524): the part's own bytes where they give an image with the properties, so that nothing but the
properties can be shown of it. -/
def edidDefault : List Byte := edidImage (fun i => if edidOk (edidImage Config.edidByte) then Config.edidByte i else edidPlain i)

end Sys2Proof.Machine
end

