-- ==== Sys2Proof/Machine/Dict.lean ====
section
/-! DEFINITION. The object dictionary as the Object Index and the chapters' object tables give it: which indices and
subindices exist (R517, R76, R77), and for each its type, access class, P attribute, default, own value range (R79)
and tenant rule (R518). -/
namespace Sys2Proof.Machine

/-- A value of an object: a number held to the width of its type, or bytes (STR, DOMAIN). -/
inductive Val where
  | num (v : Nat)
  | bytes (l : List Byte)
  deriving DecidableEq, Repr

/-- The number of a value (0 for bytes). -/
def Val.nat : Val → Nat
  | .num v => v
  | .bytes _ => 0

/-- The bytes of a value (none for a number). -/
def Val.data : Val → List Byte
  | .num _ => []
  | .bytes l => l

/-- The data types (chapter 3, Encodings). A DOMAIN carries its maximum size. -/
inductive Ty where
  | bool | u8 | u16 | u32 | u64 | i16 | i32 | enum8 | bits32 | time64 | str | dom (max : Nat)
  deriving DecidableEq, Repr

/-- Bytes on the link: 32 for a STR in a record (R66), 0 for a DOMAIN. -/
def Ty.size : Ty → Nat
  | .bool | .u8 | .enum8 => 1
  | .u16 | .i16 => 2
  | .u32 | .i32 | .bits32 => 4
  | .u64 | .time64 => 8
  | .str => 32
  | .dom _ => 0

/-- Whether the type is a DOMAIN. -/
def Ty.isDom : Ty → Bool
  | .dom _ => true
  | _ => false

/-- The maximum size of a DOMAIN. -/
def Ty.domMax : Ty → Nat
  | .dom m => m
  | _ => 0

/-- The access classes (chapter 3). -/
inductive Acc where
  | ro | rw | rs | wo | rc
  deriving DecidableEq, Repr

/-- Who owns a row's objects where the owner is not tenant 0 (R84, R518). -/
inductive Own where
  | zero | tag (sub : Nat) | outOf | embedder | tenant | context
  deriving DecidableEq, Repr

/-- Facts a default or a range may depend on: the role strap and the instance, and the place within a repeated entry. -/
structure At where
  mgr : Bool
  inst : Nat
  off : Nat

/-- One subindex (or `n` consecutive ones of one form) of an index. `mask` is the tenant access mask; `mine` says that
the row's owner rule applies, otherwise tenant 0 owns it. -/
structure Desc where
  sub : Nat
  n : Nat
  ty : Ty
  acc : Acc
  p : Bool
  dflt : At → Val
  rng : At → Val → Bool
  mask : Nat
  mine : Bool
  maint : Bool

/-- One row of the Object Index: an instance family. `entries` is the count at .00; `none` makes it a single-value index. -/
structure Row where
  base : Nat
  count : Nat
  entries : Nat → Option Nat
  mgrOnly : Bool
  own : Own
  subs : List Desc

/-! ## Ranges -/

abbrev Rng := At → Val → Bool

def rAny : Rng := fun _ _ => true
def rLe (m : Nat) : Rng := fun _ v => decide (v.nat ≤ m)
def rIn (a b : Nat) : Rng := fun _ v => decide (a ≤ v.nat) && decide (v.nat ≤ b)
def rOne (l : List Nat) : Rng := fun _ v => l.contains v.nat
def rLeOr (m x : Nat) : Rng := fun _ v => decide (v.nat ≤ m) || v.nat == x
def rInt (n : Nat) (a b : Int) : Rng := fun _ v => decide (a ≤ toInt n v.nat) && decide (toInt n v.nat ≤ b)

/-- A valid format code (R6). -/
def fmtW (v : Nat) : Nat := bits v 31 19
def fmtH (v : Nat) : Nat := bits v 18 7
def fmtRate (v : Nat) : Nat := bits v 6 1
def fmtInt (v : Nat) : Bool := bitAt v 0
def fmtValid (v : Nat) : Bool :=
  decide (0 < fmtW v) && decide (0 < fmtH v) && decide (1 ≤ fmtRate v) && decide (fmtRate v ≤ 8)
def fmt (w h r i : Nat) : Nat := (w <<< 19) ||| (h <<< 7) ||| (r <<< 1) ||| i
/-- The format code of a picture, 0 where its fields do not hold it (R6). -/
def fmtOf (w h r i : Nat) : Nat := if w ≤ 8191 ∧ h ≤ 4095 ∧ fmtValid (fmt w h r i) then fmt w h r i else 0

def rFmt : Rng := fun _ v => fmtValid v.nat
/-- OUT_TIMING: a valid format code whose interlaced bit is 0 (R275). -/
def rTiming : Rng := fun _ v => fmtValid v.nat && !fmtInt v.nat
/-- Layer size: width 1–7680 and height 1–4320. -/
def rSize : Rng := fun _ v =>
  let w := bits v.nat 31 16; let h := bits v.nat 15 0
  decide (1 ≤ w) && decide (w ≤ 7680) && decide (1 ≤ h) && decide (h ≤ 4320)
/-- Layer position: two I16 from −8192 to +8191. -/
def rPos : Rng := fun _ v =>
  let x := toInt 16 (bits v.nat 31 16); let y := toInt 16 (bits v.nat 15 0)
  decide (-8192 ≤ x) && decide (x ≤ 8191) && decide (-8192 ≤ y) && decide (y ≤ 8191)
/-- A route word (R300): delay at most 48,000, bits [14:10] 0, a source 0–511 or none. -/
def rRoute : Rng := fun _ v =>
  decide (bits v.nat 31 16 ≤ 48000) && (bits v.nat 14 10 == 0) &&
    (decide (bits v.nat 9 0 ≤ 511) || bits v.nat 9 0 == 0x3FF)
/-- CO_ZONE_GRID: columns and rows 1–16 (R263). -/
def rGrid : Rng := fun _ v =>
  let c := bits v.nat 15 8; let r := bits v.nat 7 0
  decide (1 ≤ c) && decide (c ≤ 16) && decide (1 ≤ r) && decide (r ≤ 16)
/-- LC_FOLLOW_ZONE: (output << 8) | zone, or 0xFFFF (R342). -/
def rFollow : Rng := fun _ v => v.nat == 0xFFFF || decide (bits v.nat 15 8 ≤ 47)
/-- REF0 and REF1 formats (R112). -/
def refFmt (v : Nat) : Bool :=
  v == fmt 720 576 3 1 || v == fmt 720 486 4 1 || (fmtW v == 1920 && fmtH v == 1080 && fmtValid v)
/-- CAND_FORMAT (R137). -/
def rCandFmt : Rng := fun a v =>
  v.nat == 0 || (if a.inst ≤ 1 then refFmt v.nat else if a.inst ≤ 4 then false else fmtValid v.nat)
/-- CAND_SOURCE (R137). -/
def rCandSrc : Rng := fun a v => if a.inst ≤ 4 then v.nat == 0 else decide (v.nat ≤ 31)
/-- CAND_PRIORITY; REF4 accepts only 1 on a worker and only 0 on a manager (R118). -/
def rCandPrio : Rng := fun a v => if a.inst = 4 then v.nat == b2n (!a.mgr) else decide (v.nat ≤ 15)
/-- KO_SCOPE (R189). -/
def rScope : Rng := fun a v => if a.mgr then decide (v.nat < 16) && !(bits v.nat 2 0 == 0) else v.nat == 1
/-- Every byte of a DOMAIN at most `m`. -/
def rBytesLe (m : Nat) : Rng := fun _ v => v.data.all (fun b => decide (b.toNat ≤ m))
/-- The complete 16-bit little-endian entries of a DOMAIN, each at least `m`. -/
def words16Ge (m : Nat) : List Byte → Bool
  | a :: b :: t => decide (m ≤ a.toNat + 256 * b.toNat) && words16Ge m t
  | _ => true
/-- AU_SOURCES: no reserved bit of an entry is set and its kind is one of R292 (R5). -/
def rSources : Rng := fun _ v => v.data.zipIdx.all (fun p =>
  if p.2 % 4 = 0 then decide (p.1.toNat ≤ 1) else if p.2 % 4 = 3 then p.1.toNat % 16 == 0 && decide (p.1.toNat ≤ 0x40) else true)
/-- MB_POWER: no bank code 3 (R360). -/
def rPower : Rng := fun _ v => v.data.all (fun b =>
  !(bits b.toNat 1 0 == 3) && !(bits b.toNat 3 2 == 3) && !(bits b.toNat 5 4 == 3) && !(bits b.toNat 7 6 == 3))
/-- STR: 1 to 32 bytes, each 0x20–0x7E (R79). -/
def strOk (l : List Byte) : Bool :=
  decide (1 ≤ l.length) && decide (l.length ≤ 32) && l.all (fun b => decide (0x20 ≤ b.toNat) && decide (b.toNat ≤ 0x7E))

/-! ## The path matrix (R391) -/

/-- Register slices from master `m` to target `t`; `none` where there is no path (R391). -/
def xbSlices (m t : Nat) : Option Nat :=
  let g := if t ≤ 7 then 0 else if t ≤ 11 then 1 else if t = 12 then 2 else if t = 13 then 3 else 4
  let row : List (Option Nat) :=
    if m ≤ 3 then [some 2, some 3, none, none]
    else if m ≤ 9 then [some 1, some 2, none, none]
    else if m = 10 then [some 2, some 2, none, none]
    else if m = 11 then [some 1, none, none, some 1]
    else if m = 12 then [some 1, some 2, none, some 1]
    else if m = 13 then [some 3, some 3, some 1, some 3]
    else if m ≤ 15 then [some 2, some 3, none, none]
    else if m = 16 then [some 1, some 2, none, none]
    else if m = 17 then [some 0, none, none, none]
    else if m = 18 then [some 2, some 3, none, none]
    else if m = 19 then [some 0, none, none, none]
    else [none, none, none, none]
  row.getD g none

/-- The class of a master, 0 A to 3 D (R404). -/
def xbClass (m : Nat) : Nat :=
  if m ≤ 3 then 1 else if m ≤ 10 then 0 else if m = 17 || m = 19 then 3 else 2

/-- Default priority of a master (R399). -/
def xbDefaultPrio (m : Nat) : Nat :=
  if m ≤ 9 then 8 else if m = 10 then 12 else if m ≤ 12 then 10 else if m = 13 then 12
  else if m ≤ 15 then 8 else if m = 16 then 4 else if m = 18 then 6 else 0

/-- The default XB_PRIORITY of master `m`: 14 bytes, 0 where there is no path. -/
def xbPrioDefault (m : Nat) : List Byte :=
  (List.range 14).map (fun t => BitVec.ofNat 8 (if (xbSlices m t).isSome then xbDefaultPrio m else 0))

/-- XB_PRIORITY values (R399): at most 15, and 0 for a target without a path. -/
def rPrio : Rng := fun a v =>
  (List.range v.data.length).all (fun t =>
    let b := byteAt v.data t
    if (xbSlices a.inst t).isSome then decide (b ≤ 15) else b == 0)

/-- XB_PATH_MAP: U16 per master (R391). -/
def xbPathMap : List Byte :=
  (List.range 20).flatMap (fun m => toLE 2 ((List.range 14).foldl (fun a t => a ||| (b2n (xbSlices m t).isSome <<< t)) 0))

/-- XB_SLICES: byte 14m + t (R391). -/
def xbSliceMap : List Byte :=
  (List.range 20).flatMap (fun m => (List.range 14).map (fun t => BitVec.ofNat 8 ((xbSlices m t).getD 0xFF)))

/-! ## Defaults with content -/

/-- The identity layer matrix (R254): 0x2000 on the diagonal, offsets 0. -/
def matrixIdentity : List Byte :=
  [0x2000, 0, 0, 0, 0x2000, 0, 0, 0, 0x2000, 0, 0, 0].flatMap (toLE 2)

/-- The default AU_SOURCES table (R292). -/
def auSourcesDefault : List Byte :=
  (List.range 512).flatMap (fun s => toLE 4 (0x10000000 + ((s >>> 4) <<< 16) + ((s % 16) <<< 8)))

/-- ASCII bytes of a name. -/
def ascii (s : String) : List Byte := s.toList.map (fun c => BitVec.ofNat 8 c.toNat)

/-- Default CAND_PRIORITY (chapter 4). -/
def candPrioDefault (mgr : Bool) (k : Nat) : Nat :=
  (if mgr then [1, 2, 3, 4, 0, 5, 6, 7] else [2, 3, 4, 5, 1, 0, 0, 0]).getD k 0

/-! ## Constructors of descriptors -/

def num (v : Nat) : At → Val := fun _ => .num v
def dom (l : List Byte) : At → Val := fun _ => .bytes l

/-- Owner and mask of a row's plain entries: rules S, SR, SX (tenant 0) and I, IW, T (the row's owner). -/
def mkD (sub : Nat) (ty : Ty) (acc : Acc) (p : Bool) (d : At → Val) (r : Rng) (mask : Nat) (mine : Bool) : Desc :=
  { sub := sub, n := 1, ty := ty, acc := acc, p := p, dflt := d, rng := r, mask := mask, mine := mine, maint := false }

def maskS : Nat := 0x01
def maskSR : Nat := 0x09
def maskSX : Nat := 0x19
def maskI : Nat := 0x03
def maskW : Nat := 0x07
def maskKA : Nat := 0x11

/-- An entry of a row of rule S, SR or SX. -/
def sD (mask sub : Nat) (ty : Ty) (acc : Acc) (d : At → Val) (r : Rng := rAny) (p : Bool := false) : Desc :=
  mkD sub ty acc p d r mask false
/-- An entry of a row of rule I. -/
def iD (sub : Nat) (ty : Ty) (acc : Acc) (d : At → Val) (r : Rng := rAny) (p : Bool := false) : Desc :=
  mkD sub ty acc p d r maskI true
/-- A tag entry: owned by tenant 0, code S (R84). -/
def tagD (sub : Nat) (p : Bool := true) : Desc := mkD sub .u8 .rs p (num 0) (rLe 127) maskS false
def Desc.times (d : Desc) (n : Nat) : Desc := { d with n := n }
def Desc.inMaint (d : Desc) : Desc := { d with maint := true }
def Desc.withMask (d : Desc) (m : Nat) : Desc := { d with mask := m }

def rowM (base count n : Nat) (own : Own) (subs : List Desc) : Row :=
  { base := base, count := count, entries := fun _ => some n, mgrOnly := false, own := own, subs := subs }
def row1 (base count : Nat) (own : Own) (d : Desc) : Row :=
  { base := base, count := count, entries := fun _ => none, mgrOnly := false, own := own, subs := [d] }
def Row.manager (r : Row) : Row := { r with mgrOnly := true }

/-! ## The tables -/

/-- Identity, link and sessions (chapters 17, 2, 15). -/
def rowsIdLink : List Row :=
  [ rowM 0x1000 1 5 .zero
      [sD maskSR 1 .u16 .ro (num 0x5957), sD maskSR 2 .u16 .ro (num 0x4832), sD maskSR 3 .u8 .ro (num 0xB0),
       sD maskSR 4 .u64 .ro (num 0), sD maskSR 5 .bits32 .ro (num 0)],
    row1 0x1001 1 .zero (sD maskSR 0 .str .rw (dom (ascii "CLERUN")) rAny true),
    rowM 0x1101 1 3 .zero
      [sD maskS 1 .u8 .rw (num 16) (rIn 16 255), sD maskS 2 .enum8 .ro (num 0), sD maskS 3 .u8 .ro (num 0)],
    rowM 0x1102 1 6 .zero
      [(sD maskS 1 .u32 .rc (num 0)).times 5, sD maskS 6 .u64 .ro (num 0)],
    rowM 0x1103 1 2 .zero [(sD maskS 1 .u8 .ro (num 0)).times 2],
    rowM 0x1108 1 5 .zero
      [sD maskS 1 .u8 .ro (num 0), sD maskS 2 .u8 .ro (num 0), sD maskS 3 .u16 .ro (num 0),
       sD maskS 4 .u8 .ro (num 0), sD maskS 5 .u8 .ro (num 0)],
    rowM 0x1110 1 1 .zero [sD maskS 1 .u8 .ro (num 0)],
    row1 0x1111 1 .zero (sD maskS 0 (.dom 16) .ro (dom (zeros 16))) ]

/-- Hierarchy, membership, subscription and mirrors (chapter 5). Bits [7:1] of the flags byte and the U16 of an MB_BINDINGS
entry are stored as written (DESIGN CHOICE, log entry 54). -/
def rowsMember : List Row :=
  [ rowM 0x1200 1 6 .zero
      [sD maskSR 1 .enum8 .ro (fun a => .num (b2n (!a.mgr))), sD maskSR 2 .u8 .ro (fun a => .num (if a.mgr then 0 else 0xFF)),
       sD maskSR 3 .u8 .ro (fun a => .num (if a.mgr then 0 else 0xFF)), sD maskSR 4 .u8 .ro (num 0xFF),
       sD maskSR 5 .enum8 .ro (fun a => .num (b2n (!a.mgr))), sD maskSR 6 .u8 .ro (num 0)],
    (rowM 0x1201 1 4 .zero
      [sD maskSR 1 .u8 .ro (num 0), sD maskSR 2 .u32 .ro (num 0), sD maskSR 3 .time64 .ro (num 0),
       sD maskSR 4 .u32 .rc (num 0)]).manager,
    (row1 0x1210 1 .zero (sD maskS 0 (.dom 3048) .rw (dom []) rAny true).inMaint).manager,
    (row1 0x1211 1 .zero (sD maskSR 0 (.dom 32) .ro (dom (zeros 32)))).manager,
    (row1 0x1212 1 .zero (sD maskSR 0 (.dom 32) .ro (dom (zeros 32)))).manager,
    (rowM 0x1220 1 4 .zero
      [sD maskSX 1 .u8 .rw (num 1) (rIn 1 254), sD maskSX 2 .u32 .rw (num 0) (rLe 0xFFFFFF),
       sD maskSX 3 .enum8 .wo (num 0) (rIn 1 2), sD maskSX 4 .u8 .ro (num 0)]).manager,
    (rowM 0x1221 1 4 .zero
      [sD maskSR 1 .u32 .ro (num 0), (sD maskSR 2 .u32 .rc (num 0)).times 3]).manager ]

/-- Tenants (chapter 15). -/
def rowsTenant : List Row :=
  [ rowM 0x1300 1 3 .zero [(sD maskS 1 .u32 .rc (num 0)).times 2, sD maskS 3 .u32 .ro (num 0)],
    row1 0x1301 1 .zero (sD maskS 0 (.dom 2048) .ro (dom [])),
    rowM 0x1380 128 7 .tenant
      [sD maskS 1 .bool .rw (fun a => .num (b2n (a.inst == 0))) (fun a v => if a.inst = 0 then v.nat == 1 else true) true,
       mkD 2 .u64 .wo true (num 0) rAny maskW true, mkD 3 .u64 .wo true (num 0) rAny maskW true,
       sD maskS 4 .bits32 .rw (fun a => .num (b2n (a.inst == 0)))
         (fun a v => if a.inst = 0 then v.nat == 1 else decide (v.nat ≤ 1)) true,
       mkD 5 .bits32 .ro false (num 0) rAny maskW true, mkD 6 .u8 .ro false (num 0) rAny maskW true,
       mkD 7 .u16 .ro false (num 0) rAny maskW true] ]

/-- Events and logs (chapter 16). -/
def rowsEvent : List Row :=
  [ row1 0x1400 1 .zero (sD maskSR 0 .bits32 .ro (num 0)),
    row1 0x1401 1 .zero (sD maskS 0 .bits32 .rw (num 0x7FFFFFFF) (rLe 0x7FFFFFFF) true),
    row1 0x1402 1 .zero (sD maskSR 0 (.dom 512) .ro (dom (zeros 512))),
    rowM 0x1403 1 4 .zero
      [sD maskSR 1 .enum8 .ro (num 1), sD maskSR 2 .time64 .ro (num 0), sD maskSR 3 .u64 .ro (num 0),
       sD maskSR 4 .u32 .ro (num 0)],
    row1 0x1410 5 .zero (sD maskSR 0 (.dom 4096) .ro (dom [])),
    rowM 0x1420 5 4 .zero
      [(sD maskSR 1 .u16 .ro (num 0)).times 2, sD maskSR 3 .u32 .ro (num 0), sD maskSR 4 .u32 .rc (num 0)],
    row1 0x1430 1 .zero (sD maskS 0 .u64 .rs (num 0x103FC000) rAny true),
    rowM 0x1440 1 3 .zero
      [sD maskS 1 .u16 .rw (num 0) (rLe 3600) true, (sD maskSR 2 .u32 .rc (num 0)).times 2],
    rowM 0x1441 1 2 .zero [sD maskSR 1 .enum8 .ro (num 0), sD maskSR 2 .u32 .rc (num 0)] ]

/-- Power, snapshot and persistent store (chapters 17, 3). -/
def rowsPower : List Row :=
  [ rowM 0x1500 1 0x0A .zero
      [sD maskSR 1 .enum8 .ro (num 1), sD maskSR 2 .u8 .ro (num 1), sD maskS 3 .bool .wo (num 0), sD maskS 4 .bool .wo (num 0),
       (sD maskS 5 .bool .wo (num 0)).inMaint, sD maskSR 6 .enum8 .ro (num 1), sD maskSR 7 .enum8 .ro (num 0),
       sD maskS 8 .u16 .rw (fun a => .num (if a.mgr then 15 else 0)) (rLe 600) true, sD maskSR 9 .bits32 .ro (num 0),
       sD maskSR 0x0A .u32 .ro (num 0)],
    rowM 0x1501 1 4 .zero
      [sD maskSR 1 .u64 .rs (num 0x10300000) rAny true, sD maskSR 2 .u32 .rs (num 1032192) rAny true,
       sD maskSR 3 .u32 .ro (num 0), sD maskSR 4 .enum8 .ro (num 0)],
    rowM 0x1510 1 12 .zero
      [sD maskS 1 .enum8 .ro (num 0), sD maskS 2 .u32 .ro (num 0), sD maskS 3 .u32 .ro (num 0), sD maskS 4 .u8 .ro (num 0),
       sD maskS 5 .u32 .ro (num 0), sD maskS 6 .u32 .ro (num 0), sD maskS 7 .u8 .ro (num 128), sD maskS 8 .enum8 .ro (num 0),
       sD maskS 9 .enum8 .ro (num 0), sD maskS 0x0A .time64 .ro (num 0), (sD maskS 0x0B .bool .wo (num 0)).inMaint,
       sD maskS 0x0C .bool .wo (num 0)] ]

/-- Kickoff, Whistle, staging, MEM_REMAP, maintenance mode (chapters 6, 3). -/
def rowsKick : List Row :=
  [ rowM 0x1F00 1 6 .zero
      [sD maskSX 1 .time64 .rw (num 0), sD maskSR 2 .enum8 .ro (num 0), sD maskSR 3 .u32 .ro (num 0),
       sD maskSR 4 .bits32 .rw (fun a => .num (if a.mgr then 3 else 1)) rScope, sD maskKA 5 .bool .wo (num 0),
       sD maskSR 6 .u32 .rw (num 2700) (rIn 2700 270000000) true],
    rowM 0x1F01 1 5 .zero
      [sD maskS 1 .u16 .ro (num 2048), sD maskS 2 .u16 .ro (num 0), sD maskS 3 .u16 .rw (num 256) (rIn 1 2048),
       sD maskS 4 .u32 .rc (num 0), sD maskSR 5 .u16 .ro (num 0)],
    rowM 0x1F02 1 3 .zero
      [sD maskSX 1 .u32 .rw (num 0) (rLe 0xFFFFFF), sD maskSX 2 .enum8 .ro (num 0), sD maskSX 3 .u64 .ro (num 0)],
    rowM 0x1F03 1 8 .zero
      [sD maskSR 1 .u8 .ro (num 0), sD maskSR 2 .u16 .ro (num 0), (sD maskSR 3 .u32 .ro (num 0)).times 3,
       sD maskSR 6 .u8 .ro (num 0), sD maskSR 7 .bits32 .ro (num 0), sD maskSR 8 .u8 .ro (num 0)],
    row1 0x1F04 1 .zero (sD maskSR 0 (.dom 32) .rw (dom (zeros 32))),
    rowM 0x1F08 1 2 .zero [sD maskSX 1 .time64 .rw (num 0), sD maskSR 2 .enum8 .ro (num 0)],
    row1 0x1F10 1 .zero (sD maskSR 0 .bool .rs (num 0)),
    row1 0x1F20 1 .zero (sD maskSR 0 .bool .rw (num 0)) ]

/-- Timebase, selector, commissioning (chapter 4). -/
def rowsRef : List Row :=
  [ rowM 0x2000 1 3 .zero [(sD maskSR 1 .time64 .ro (num 0)).times 3],
    rowM 0x2001 1 9 .zero
      [sD maskSR 1 .enum8 .ro (num 0), sD maskSR 2 .enum8 .ro (num 0xFF), sD maskSR 3 .bits32 .ro (num 0),
       sD maskSR 4 .i32 .ro (num 0), sD maskSR 5 .i32 .ro (num 0), sD maskSR 6 .u32 .rc (num 0), sD maskSR 7 .u32 .ro (num 0),
       sD maskSR 8 .enum8 .ro (fun a => .num (if a.mgr then 8 else 4)), sD maskSR 9 .time64 .ro (num 0)],
    rowM 0x2002 1 6 .zero
      [(sD maskS 1 .enum8 .rw (fun a => .num (if a.mgr then 8 else 4)) (rLe 13) true).inMaint,
       (sD maskS 2 .u32 .rw (num 1800) (rIn 60 86400) true).inMaint, (sD maskS 3 .bool .rw (num 1) rAny true).inMaint,
       (sD maskS 4 .enum8 .rw (num 1) (rLe 1) true).inMaint, (sD maskS 5 .enum8 .rw (num 0) (rLe 1) true).inMaint,
       (sD maskS 6 .u8 .rw (num 50) (rIn 1 100) true).inMaint],
    rowM 0x2008 8 8 .zero
      [(sD maskS 1 .u8 .rw (fun a => .num (candPrioDefault a.mgr a.inst)) rCandPrio true).inMaint,
       (sD maskS 2 .u32 .rw (num 0) rCandFmt true).inMaint,
       (sD maskS 3 .u8 .rw (fun a => .num (a.inst - 5)) rCandSrc true).inMaint,
       sD maskSR 4 .enum8 .ro (num 0), sD maskSR 5 .i32 .ro (num 0), (sD maskSR 6 .u32 .ro (num 0)).times 2,
       sD maskSR 8 .u32 .rc (num 0)] ]

/-- Input ports and virtual inputs (chapters 7, 5). -/
def rowsInput : List Row :=
  [ { base := 0x2100, count := 32, entries := fun n => some (if n % 4 = 0 then 0x19 else 0x16), mgrOnly := false,
      own := .tag 0x0A, subs :=
      [iD 1 .enum8 .rs (num 1) (rLe 6) true, iD 2 .bits32 .ro (num 0), iD 3 .u32 .ro (num 0), iD 4 .u8 .rs (num 3) (rIn 2 4) true,
       iD 5 .enum8 .rs (num 2) (rLe 2) true, iD 6 .enum8 .rs (num 0) (rLe 5) true, iD 7 .enum8 .rs (num 0) (rLe 1) true,
       iD 8 .u32 .rc (num 0), iD 9 .u32 .rc (num 0), tagD 0x0A, iD 0x0B .bits32 .ro (num 0), iD 0x0C .u32 .ro (num 0),
       iD 0x0D .u64 .rs (fun a => .num (0x40000000 + a.inst * 0x04000000)) rAny true,
       iD 0x0E .u32 .rs (num 0x3C021C10) rFmt true, iD 0x0F .u32 .ro (num 58073088), iD 0x10 .u32 .ro (num 0),
       (iD 0x11 .u32 .rc (num 0)).times 3, iD 0x14 .u16 .rs (num 500) (rLe 60000) true, iD 0x15 .u32 .ro (num 0),
       iD 0x16 .u32 .rc (num 0), iD 0x17 .enum8 .rs (num 3) (rLe 3) true, iD 0x18 .u8 .rs (num 4) (rOne [1, 2, 4]) true,
       iD 0x19 (.dom 512) .rw (fun _ => .bytes edidDefault) rAny true] },
    rowM 0x2140 32 0x11 (.tag 0x10)
      [iD 1 .bool .rs (num 0), iD 2 .u16 .rs (num 0) (fun _ v => decide (bits v.nat 15 8 ≤ 254) && decide (bits v.nat 7 0 ≤ 31)),
       iD 3 .enum8 .rs (num 0) (rLe 2), iD 4 .enum8 .rs (num 1) (rLe 2), iD 5 .u32 .rs (num 0) rFmt,
       iD 6 .u8 .rs (num 16) (rLe 16), iD 7 .bits32 .ro (num 0), iD 8 .u32 .ro (num 0), iD 9 .u32 .ro (num 0),
       iD 0x0A .u8 .rs (num 3) (rIn 2 4), iD 0x0B .enum8 .rs (num 2) (rLe 2), iD 0x0C .enum8 .rs (num 0) (rLe 5),
       iD 0x0D .enum8 .rs (num 0) (rLe 1), (iD 0x0E .u32 .rc (num 0)).times 2, tagD 0x10 false, iD 0x11 .u32 .rc (num 0)] ]

/-- Output ports (chapter 9). -/
def rowsOutput : List Row :=
  [ rowM 0x2200 48 0x18 (.tag 0x07)
      [iD 1 .enum8 .rs (num 1) (fun a v => decide (v.nat ≤ (if 40 ≤ a.inst then 4 else 2))) true,
       iD 2 .u32 .rs (num 0x3C021C10) rTiming true,
       iD 3 .u8 .rs (num 0) (fun a v => decide (v.nat ≤ (if a.inst % 4 = 0 then 1 else 0))) true,
       iD 4 .bits32 .ro (num 0), iD 5 .u32 .rc (num 0), iD 6 .u8 .rs (num 0xFF) (rLeOr 15 0xFF) true, tagD 7,
       iD 8 .u8 .rs (num 0xFF) (rLeOr 223 0xFF) true, iD 9 .u32 .rs (num 0) (rLe 0x3FFFFFFF) true,
       iD 0x0A .i32 .rs (num 0) rAny true, iD 0x0B .u8 .rs (num 1) (rOne [1, 2, 4]) true, iD 0x0C .enum8 .rs (num 3) (rLe 3) true,
       iD 0x0D .u8 .rs (num 8) (rOne [6, 8, 10]) true, iD 0x0E .enum8 .rs (num 1) (rLe 1) true, iD 0x0F .u32 .rs (num 0) rAny true,
       iD 0x10 .u64 .rs (num 0) rAny true, iD 0x11 .enum8 .rs (num 0) (rLe 1) true, iD 0x12 .u8 .rs (num 8) rAny true,
       iD 0x13 .bool .rw (num 0), iD 0x14 .u64 .ro (num 0), iD 0x15 .u32 .ro (num 0), iD 0x16 .u32 .rc (num 0),
       iD 0x17 (.dom 512) .ro (dom []), iD 0x18 .u32 .ro (num 0)] ]

/-- Layers, compositions, library, safe scenes (chapter 8). -/
def rowsLayer : List Row :=
  [ rowM 0x2300 96 0x0E (.tag 0x0E)
      [iD 1 .u8 .rs (num 0xFF) (rLeOr 47 0xFF) true, iD 2 .u8 .rs (num 0) (rLe 0x3F) true, iD 3 .u64 .rs (num 0) rAny true,
       iD 4 .u32 .rs (num 0) rPos true, iD 5 .u32 .rs (num 0x07800438) rSize true, iD 6 .u8 .rs (num 0) rAny true,
       iD 7 .u16 .rs (num 0x8000) (rLe 0x8000) true, iD 8 .bool .rs (num 1) rAny true, iD 9 .u8 .rs (num 0xFF) (rLeOr 223 0xFF) true,
       iD 0x0A .u8 .rs (num 0xFF) (rLeOr 223 0xFF) true, iD 0x0B (.dom 24) .rs (dom matrixIdentity) rAny true,
       iD 0x0C .enum8 .rs (num 1) (rLe 1) true, iD 0x0D .bits32 .ro (num 0), tagD 0x0E],
    rowM 0x2400 192 0x11 (.tag 0x11)
      [iD 1 .u8 .rs (num 0xFF) (rLeOr 47 0xFF) true, iD 2 .u64 .rs (num 0x10000000) rAny true, iD 3 .u32 .rs (num 7680) rAny true,
       iD 4 .enum8 .rs (num 1) (rIn 1 7) true, iD 5 .u32 .rs (num 0x07800438) rSize true, iD 6 .u32 .rs (num 0) rPos true,
       iD 7 .u8 .rs (num 0) rAny true, iD 8 .u16 .rs (num 0x8000) (rLe 0x8000) true, iD 9 .bool .rs (num 1) rAny true,
       iD 0x0A .u8 .rs (num 0xFF) (rLeOr 223 0xFF) true, iD 0x0B .u32 .rs (num 0xFFFFFFFF) rAny true,
       iD 0x0C .u8 .rs (num 0xFF) (rLeOr 223 0xFF) true, iD 0x0D (.dom 24) .rs (dom matrixIdentity) rAny true,
       iD 0x0E .bool .rs (num 0) rAny true, iD 0x0F .bool .rs (num 0) rAny true, iD 0x10 .bits32 .ro (num 0), tagD 0x11],
    rowM 0x2500 48 0x0D .outOf
      [iD 1 .bool .rs (num 1) rAny true, iD 2 .u16 .rs (num 0x0404) rGrid true, iD 3 .u8 .rs (num 0xFF) (rLeOr 47 0xFF) true,
       iD 4 .u32 .rs (num 0x01000000) (rIn 1 0x01000000) true, iD 5 .u16 .rs (num 0xC000) (rIn 0x4000 0xFFFF) true,
       iD 6 .bits32 .ro (num 0), (iD 7 .u32 .ro (num 0)).times 5, iD 0x0C .u16 .ro (num 0x8000), iD 0x0D (.dom 3088) .ro (dom (zeros 16))],
    rowM 0x2600 224 4 (.tag 4)
      [iD 1 .enum8 .rs (num 0) (rLe 4) true, iD 2 (.dom 16384) .rs (dom []), iD 3 .u16 .ro (num 0), tagD 4],
    row1 0x26E0 16 .zero (sD maskS 0 (.dom 32) .rs (dom (zeros 32)) rAny true) ]

/-- Audio (chapter 10). -/
def rowsAudio : List Row :=
  [ rowM 0x2700 16 0x23 (.tag 0x0C)
      [iD 1 .enum8 .rs (num 0) (rLe 4) true, iD 2 .enum8 .rs (num 0) (rLe 4) true, iD 3 .u8 .rs (num 2) (rIn 1 16) true,
       iD 4 .u8 .rs (num 32) (rOne [16, 24, 32]) true, iD 5 .bits32 .rs (num 3) (rLe 0xFFFF) true, iD 6 .bits32 .rs (num 3) (rLe 0xFFFF) true,
       (iD 7 .u32 .ro (num 0)).times 2, (iD 9 .u32 .rc (num 0)).times 2, iD 0x0B .u16 .rs (num 10) (rLe 2000) true, tagD 0x0C,
       (iD 0x0D .u32 .rc (num 0)).times 2, iD 0x0F .enum8 .rs (num 7) (rIn 1 11) true, iD 0x10 .enum8 .rs (num 7) (rIn 1 11) true,
       iD 0x11 .bool .rs (num 0) rAny true, iD 0x12 .bits32 .ro (num 0), iD 0x13 .u32 .rc (num 0),
       (iD 0x14 .u32 .rs (num 0x3FF) rRoute true).times 16],
    rowM 0x2740 1 9 .zero
      [sD maskSR 1 .enum8 .rs (num 0) (rLe 1) true, sD maskSR 2 .enum8 .rs (num 1) (rLe 1) true, sD maskSR 3 .u16 .rs (num 10) (rLe 2000) true,
       sD maskSR 4 .u16 .rs (num 200) (rIn 32 2000) true, sD maskSR 5 .u64 .rs (num 0) rAny true, sD maskSR 6 .u32 .rs (num 0) rAny true,
       (sD maskSR 7 .u16 .ro (num 0)).times 2, sD maskSR 9 .u32 .ro (num 0)],
    row1 0x2741 1 .zero (sD maskSR 0 (.dom 2048) .rs (fun _ => .bytes auSourcesDefault) rSources true),
    row1 0x2742 1 .zero (sD maskS 0 (.dom 4096) .ro (fun _ => .bytes (zeros 4096))),
    rowM 0x2748 16 0x1C (.tag 0x0C)
      [iD 1 .enum8 .rs (num 0) (rLe 4) true, iD 2 .u64 .rs (num 0) rAny true, iD 3 .u32 .rs (num 0) rAny true,
       iD 4 .u8 .rs (num 2) (rIn 1 16) true, iD 5 .u8 .rs (num 24) (rOne [16, 24, 32]) true, iD 6 .enum8 .rs (num 7) (rIn 1 11) true,
       iD 7 .u8 .rs (num 0) (rLe 15) true, iD 8 .bits32 .ro (num 0), (iD 9 .u32 .rc (num 0)).times 2, iD 0x0B .bool .wo (num 0),
       tagD 0x0C, (iD 0x0D .u32 .rs (num 0x3FF) rRoute true).times 16],
    rowM 0x2760 6 0x40 .embedder [(iD 1 .u32 .rs (num 0x3FF) rRoute true).times 64] ]

/-- Lamps (chapter 11). -/
def rowsLamp : List Row :=
  [ rowM 0x2800 48 0x18 (.tag 0x0B)
      [iD 1 .bool .rs (num 0) rAny true, iD 2 .u32 .rs (num 0) (rLe 0x01000000) true, iD 3 .u32 .rs (num 200) (rLe 60000) true,
       iD 4 .enum8 .rs (num 1) (rLe 3) true, iD 5 .u8 .rs (num 0xFF) (rLeOr 4 0xFF) true, iD 6 .u8 .rs (num 8) (rLeOr 8 0xFF) true,
       iD 7 .u16 .rs (num 700) (rIn 10 5000) true, iD 8 .bits32 .ro (num 0), iD 9 .u16 .ro (num 0xFFFF), iD 0x0A .u16 .rs (num 0xFFFF) rFollow true,
       tagD 0x0B, iD 0x0C .enum8 .rs (num 0) (rLe 4) true, iD 0x0D .u32 .rs (num 0) (rLe 0x01000000) true,
       iD 0x0E .u32 .rs (num 0x01000000) (rLe 0x01000000) true, iD 0x0F .u8 .rs (num 0xFF) (rLeOr 47 0xFF) true,
       iD 0x10 .u16 .rs (num 1000) (rIn 100 65535) true, iD 0x11 .u16 .rs (num 0) rAny true, (iD 0x12 .u32 .ro (num 0)).times 2,
       (iD 0x14 .u16 .ro (num 0)).times 2, iD 0x16 .i16 .ro (num 0), iD 0x17 .u32 .ro (num 0), iD 0x18 .u32 .rc (num 0)],
    rowM 0x2840 5 2 .zero
      [sD maskSR 1 (.dom 32) .rs (fun _ => .bytes ((List.range 16).flatMap (fun _ => toLE 2 0x8000))) rAny true,
       sD maskSR 2 .str .rs (fun a => .bytes (ascii "CLASS" ++ [BitVec.ofNat 8 (0x30 + a.inst)])) rAny true],
    rowM 0x2850 8 6 .zero
      [sD maskSR 1 .bool .rs (num 0) rAny true, sD maskSR 2 .u32 .rs (num 10000) (rIn 1000 1000000) true,
       sD maskSR 3 .u16 .rs (num 3435) (rIn 2000 5000) true, sD maskSR 4 .i16 .rs (num 0) (rInt 16 (-100) 100) true,
       sD maskSR 5 .i16 .ro (num 0), sD maskSR 6 .bits32 .ro (num 0)],
    rowM 0x2860 1 0x0D .zero
      [sD maskSR 1 .u32 .rs (num 0) rAny true, sD maskSR 2 .u8 .rs (num 70) (rIn 25 120) true, sD maskSR 3 .u16 .rs (num 200) (rIn 10 1000) true,
       sD maskSR 4 .u8 .rs (num 20) (rIn 10 100) true, sD maskSR 5 .u64 .rs (num 0xFFFFFFFFFFFF) (rLe 0xFFFFFFFFFFFF) true,
       sD maskSR 6 .u16 .rs (num 2000) (rIn 1000 4000) true, sD maskSR 7 .u32 .rs (num 48000) (rIn 5000 60000) true,
       sD maskSR 8 .u16 .rs (num 5000) (rIn 100 10000) true, (sD maskSR 9 .bool .wo (num 0)).inMaint, sD maskSR 0x0A .u64 .ro (num 0),
       sD maskSR 0x0B .u32 .ro (num 0), sD maskSR 0x0C .u32 .rc (num 0), sD maskSR 0x0D .i16 .ro (num 0)],
    row1 0x2861 1 .zero (sD maskSR 0 (.dom 128) .rs (fun _ => .bytes (7#8 :: zeros 127)) (rBytesLe 7) true) ]

/-- Banks and Gates (chapter 12). -/
def rowsBank : List Row :=
  [ rowM 0x2900 1 3 .zero [sD maskSR 1 .u8 .ro (num 16), sD maskSR 2 .u16 .ro (num 0), sD maskSR 3 .u8 .ro (num 0)],
    rowM 0x2901 1 8 .zero
      [sD maskSR 1 .bool .rs (num 1) rAny true, sD maskSR 2 .u32 .rs (num 3600) (rIn 60 86400) true, (sD maskSR 3 .u32 .rc (num 0)).times 2,
       (sD maskSR 5 .u64 .ro (num 0)).times 2, sD maskSR 7 .u32 .ro (num 0), sD maskSR 8 .u32 .rc (num 0)],
    row1 0x2902 1 .zero (sD maskSR 0 (.dom 128) .rs (dom (zeros 128)) rPower true),
    row1 0x2903 1 .zero (sD maskSR 0 (.dom 4224) .ro (dom [])),
    rowM 0x2904 1 6 .zero
      [sD maskSR 1 .bool .rs (num 1) rAny true, sD maskSR 2 .u32 .rs (num 86400) (rIn 600 2592000) true, sD maskSR 3 .enum8 .ro (num 0),
       sD maskSR 4 .u16 .ro (num 0xFFFF), (sD maskSR 5 .u16 .wo (num 0) (rLe 527)).inMaint, sD maskSR 6 .u32 .ro (num 0)],
    row1 0x2905 1 .zero (sD maskSR 0 (.dom 16912) .ro (dom [])),
    rowM 0x2906 1 4 .zero
      [(sD maskS 1 .u32 .wo (num 0) (rLe 0xFFFFFF)).inMaint, sD maskS 2 .u8 .ro (num 8), sD maskS 3 .u8 .ro (num 0), sD maskS 4 .u8 .ro (num 0)],
    row1 0x2907 1 .zero (sD maskS 0 (.dom 544) .ro (dom [])),
    rowM 0x2910 20 0x1C .zero
      [(sD maskS 1 .u64 .rs (num 0) (fun _ v => v.nat % 4096 == 0 && decide (v.nat < 2 ^ 36)) true).times 8,
       (sD maskS 9 .u64 .rs (num 0xFFF) (fun _ v => v.nat % 4096 == 0xFFF && decide (v.nat < 2 ^ 36)) true).times 8,
       (sD maskS 0x11 .u16 .rs (num 0) (fun _ v => bits v.nat 11 7 == 0) true).times 8, sD maskS 0x19 .bits32 .rc (num 0),
       (sD maskS 0x1A .u32 .rc (num 0)).times 2, sD maskS 0x1C .u64 .ro (num 0)] ]

/-- Crossbar and DRAM (chapter 13). -/
def rowsXbar : List Row :=
  [ rowM 0x2A00 1 2 .zero [sD maskSR 1 .u16 .ro (num 232), sD maskSR 2 .u32 .rc (num 0)],
    row1 0x2A01 1 .zero (sD maskSR 0 (.dom 40) .ro (fun _ => .bytes xbPathMap)),
    row1 0x2A02 1 .zero (sD maskSR 0 (.dom 280) .ro (fun _ => .bytes xbSliceMap)),
    rowM 0x2A10 20 0x0A .zero
      [sD maskS 1 (.dom 14) .rs (fun a => .bytes (xbPrioDefault a.inst)) rPrio true, sD maskSR 2 .enum8 .ro (fun a => .num (xbClass a.inst)),
       (sD maskSR 3 .u64 .rc (num 0)).times 3, sD maskSR 6 .u32 .rc (num 0), sD maskSR 7 .u64 .ro (num 0), (sD maskSR 8 .u32 .rc (num 0)).times 2,
       sD maskSR 0x0A .u8 .rc (num 0)],
    rowM 0x2A30 1 8 .zero
      [(sD maskS 1 .enum8 .rw (num 3) (rLe 3) true).inMaint, (sD maskS 2 .bool .rw (num 0) rAny true).inMaint,
       (sD maskS 3 .u32 .rw (num 86400) (rIn 3600 2592000) true).inMaint, sD maskSR 4 .u64 .ro (num 0), sD maskSR 5 .bits32 .ro (num 0),
       (sD maskSR 6 .u32 .ro (num 0)).times 2, sD maskSR 8 .bool .ro (num 0)],
    rowM 0x2A40 4 0x0A .zero
      [sD maskSR 1 .enum8 .ro (num 0), sD maskSR 2 .u32 .ro (num 0), sD maskSR 3 .u8 .ro (num 0), (sD maskSR 4 .u32 .rc (num 0)).times 2,
       sD maskSR 6 .u64 .ro (num 0), sD maskSR 7 .enum8 .ro (num 0), (sD maskSR 8 .u64 .rc (num 0)).times 2, sD maskSR 0x0A .u16 .ro (num 0)] ]

/-- Cue engine (chapter 14). -/
def rowsCue : List Row :=
  [ rowM 0x2B00 1 4 .zero
      [sD maskSR 1 .enum8 .ro (num 0),
       sD maskSR 2 .u64 .rw (num 0x10000000)
         (fun _ v => v.nat % 64 == 0 && decide (0x10000000 ≤ v.nat) && decide (v.nat ≤ 0x13FFFFC0)) true,
       sD maskSR 3 .bool .rw (num 1) rAny true, sD maskSR 4 .u32 .rc (num 0)],
    rowM 0x2B08 1 1 .zero [sD maskS 1 .u64 .rw (num 0x10000000) (fun _ v => v.nat % 32 == 0 && decide (v.nat < 2 ^ 36))],
    row1 0x2B09 1 .zero (sD maskS 0 (.dom 0x1000000) .rw (dom [])),
    rowM 0x2B10 4 0x0B .context
      [mkD 1 .enum8 .wo false (num 0) (rIn 1 3) maskW true, mkD 2 .enum8 .ro false (num 0) rAny maskW true,
       mkD 3 .u64 .rw false (num 0) (fun _ v => v.nat % 4 == 0 && decide (v.nat < 2 ^ 36)) maskW true,
       sD maskS 4 .u8 .rw (num 0) (fun a v => decide (v.nat ≤ (if a.inst = 0 then 0 else 127))) true,
       mkD 5 (.dom 136) .rw false (dom (zeros 136)) rAny maskW true, mkD 6 .u8 .ro false (num 0) rAny maskW true,
       (mkD 7 .u64 .ro false (num 0) rAny maskW true).times 2, mkD 9 .enum8 .ro false (num 0) rAny maskW true,
       mkD 0x0A .u8 .ro false (num 0) rAny maskW true, mkD 0x0B .u32 .rc false (num 0) rAny maskW true] ]

/-- Span ports (chapter 5). -/
def rowsSpan : List Row :=
  [ rowM 0x2C00 4 0x0C .zero
      [sD maskSR 1 .bool .rw (num 1), sD maskSR 2 .enum8 .ro (num 0), sD maskSR 3 .u8 .ro (num 0), sD maskSR 4 .u64 .ro (num 0),
       sD maskSR 5 .u32 .ro (num 0), sD maskSR 6 .i32 .ro (num 0), sD maskSR 7 .u32 .ro (num 0),
       sD maskSR 8 .i32 .rw (num 0) (rInt 32 (-100000) 100000) true, sD maskSR 9 .u8 .ro (num 0), (sD maskSR 0x0A .u32 .rc (num 0)).times 3] ]

/-- The Object Index (chapter 19). -/
def dictRows : List Row :=
  rowsIdLink ++ rowsMember ++ rowsTenant ++ rowsEvent ++ rowsPower ++ rowsKick ++ rowsRef ++ rowsInput ++ rowsOutput ++ rowsLayer ++
  rowsAudio ++ rowsLamp ++ rowsBank ++ rowsXbar ++ rowsCue ++ rowsSpan

/-- The row an index belongs to, on a device of the given role (R517, R519). -/
def findRow (mgr : Bool) (idx : Nat) : Option Row :=
  dictRows.find? (fun r => inRange idx r.base r.count && (mgr || !r.mgrOnly))

/-- The entry-count subindex of a multi-entry index: tenant 0, code SR (R76, R522). -/
def countDesc (n : Nat) : Desc := sD maskSR 0 .u8 .ro (num n)

/-- An object: the descriptor of one subindex, its index and subindex, and its row's owner rule. -/
structure Obj where
  idx : Nat
  sub : Nat
  inst : Nat
  off : Nat
  own : Own
  d : Desc

/-- The descriptor of a subindex of a row: none where it does not exist (R77). -/
def findSub (r : Row) (idx sub : Nat) : Option Obj :=
  let inst := idx - r.base
  let mk := fun (d : Desc) => { idx := idx, sub := sub, inst := inst, off := sub - d.sub, own := r.own, d := d : Obj }
  match r.entries inst with
  | none => if sub = 0 then r.subs.head?.map mk else none
  | some n =>
    if sub = 0 then some (mk (countDesc n))
    else if n < sub then none
    else (r.subs.find? (fun d => inRange sub d.sub d.n)).map mk

/-- The object at an index and a subindex (R517, R77). -/
def findObj (mgr : Bool) (idx sub : Nat) : Option Obj := (findRow mgr idx).bind (fun r => findSub r idx sub)

/-- The subindices 0x01 up of a row, in order (R66). -/
def rowObjs (r : Row) (idx : Nat) : List Obj :=
  match r.entries (idx - r.base) with
  | none => []
  | some n => (List.range n).filterMap (fun i => findSub r idx (i + 1))

/-- The default of an object. -/
def Obj.dflt (mgr : Bool) (o : Obj) : Val := o.d.dflt { mgr := mgr, inst := o.inst, off := o.off }

/-- The object's own value range (R79). -/
def Obj.inRng (mgr : Bool) (o : Obj) (v : Val) : Bool :=
  match o.d.ty with
  | .bool => decide (v.nat ≤ 1) && o.d.rng { mgr := mgr, inst := o.inst, off := o.off } v
  | .str => strOk v.data
  | _ => o.d.rng { mgr := mgr, inst := o.inst, off := o.off } v

/-- The key of an object in the value table. -/
def objKey (idx sub : Nat) : Nat := idx * 256 + sub

/-- The default value at an index and subindex; 0 where no object exists. -/
def dfltVal (mgr : Bool) (idx sub : Nat) : Val :=
  match findObj mgr idx sub with
  | some o => o.dflt mgr
  | none => .num 0

/-- The value a type's link bytes carry (R4). -/
def decodeVal (ty : Ty) (l : List Byte) : Val :=
  match ty with
  | .str | .dom _ => .bytes l
  | _ => .num (ofBE l)

/-- The link bytes of a value (R4); a STR in its own length. -/
def encodeVal (ty : Ty) (v : Val) : List Byte :=
  match ty with
  | .str | .dom _ => v.data
  | t => toBE t.size v.nat

/-- The range of indices a bridge serves (R13, R15). -/
def dataPlane (idx : Nat) : Bool := decide (0x2000 ≤ idx) && decide (idx ≤ 0x2CFF)

end Sys2Proof.Machine
end

