-- ==== Sys2Proof/Machine/Blocks.lean ====
section
/-! DEFINITION. The parts of the machine's state, block by block, as plain data. Values that the object dictionary
names and no block keeps for itself are in the value table of `State`; what is here is what the chapters give the
device beside its objects. -/
namespace Sys2Proof.Machine

/-! ## Control plane (chapters 1, 2, 3, 15) -/

/-- A status and a payload: a result of a request. -/
structure Res where
  status : Nat
  payload : List Byte
  deriving DecidableEq, Repr

/-- The response last driven on DZ_SDO (R42, R43): status, echo byte and payload. `full` is false when it was cut short. -/
structure Resp where
  status : Nat
  echo : Nat
  payload : List Byte
  full : Bool
  deriving DecidableEq, Repr

/-- How the response pins were driven for the last response (R42, R43): the last request edge E, the turnaround T, the bytes
sent from SYNC on, the edge on which DZ_SEL was sampled high before the last response edge F if it was, and whether the mode
is TIA-485, where DZ_SDO is driven to 1 ahead of the response. -/
structure Wave where
  e : Nat
  t : Nat
  bytes : List Byte
  cut : Option Nat
  tia485 : Bool
  deriving DecidableEq, Repr

/-- Work that the bridge holds for the data plane (R18, R53). `relayAll` is a request for all workers (R62): the manager's own
status, the workers still to answer and the status of each that has. -/
inductive Job where
  | read (idx sub : Nat)
  | write (idx sub : Nat) (v : List Byte)
  | blockRead (idx sub off max : Nat) (staged : Bool)
  | blockWrite (idx sub off : Nat) (trunc : Bool) (data : List Byte)
  | logRead (l first count : Nat)
  | prepare
  | kickoff (epoch : Option Nat) (relayed : Bool)
  | whistle (epoch : Option Nat) (relayed : Bool)
  | rollCall
  | save
  | erase
  | standby
  | subAct (add : Bool) (w idx sub : Nat)
  | mrProgram (v : Nat)
  | neighbourTest
  | relay (w ty : Nat) (f : Frame)
  | relayAll (own : Nat) (ty : Nat) (f : Frame) (ws : List Nat) (outs : List (Nat × Nat))
  deriving DecidableEq, Repr

/-- A bridge queue entry (R53): its tenant, echo byte and request CRC, its work, its result once complete, whether it
belongs to a broadcast frame (R63), and the cue context that waits for it, if a DWR made it (R432). `alt` is the status that
a broadcast records if its own part ends with 0x00 and no worker could be reached (R62), 0 elsewhere. -/
structure BEntry where
  ten : Nat
  echo : Nat
  crc : Nat
  job : Job
  res : Option Res := none
  bcast : Bool := false
  cue : Option Nat := none
  alt : Nat := 0
  deriving DecidableEq, Repr

/-- The link's own state (R52, R73): the replay record, the run of CRC errors, the CRC-storm state, the response last
driven, and how its pins were driven. `openSeen` says that the watchdog has already reported the frame now open (R74). -/
structure Link where
  replay : Option (Nat × Nat) := none
  crcRun : Nat := 0
  storm : Bool := false
  resp : Option Resp := none
  wave : Option Wave := none
  openSeen : Bool := false
  deriving DecidableEq, Repr

/-- An entry of the staging store (R86, R97): a DOMAIN entry holds the staged buffer. -/
structure Staged where
  idx : Nat
  sub : Nat
  ten : Nat
  val : Val
  deriving DecidableEq, Repr

/-- A tenant's state on this device (R447–R451, R92, R172, R198). Its code in force is in the value table
(0x1380+t.02/.03). -/
structure Tenant where
  session : Bool := false
  fails : Nat := 0
  lock : Nat := 0
  lockLogged : Bool := false
  pendHi : Option Nat := none
  koEpoch : Nat := 0
  whEpoch : Nat := 0
  spTarget : Nat := 0
  subWorker : Nat := 1
  subTarget : Nat := 0
  subResult : Nat := 0
  deriving DecidableEq, Repr

/-! ## Events and logs (chapter 16) -/

/-- An EVENT_RECORD entry (R462). -/
structure EvRec where
  time : Nat := 0
  count : Nat := 0
  sckTime : Bool := false
  deriving DecidableEq, Repr

/-- The pointers of one log (R464, R465): entries held, the next sequence number, the total made, and whether entries
were lost since the last one written. -/
structure LogSt where
  held : Nat := 0
  next : Nat := 0
  total : Nat := 0
  lost : Bool := false
  pos : Nat := 0
  deriving DecidableEq, Repr

/-- Events, logs and watchdogs. `vlog` and `audit` are the always-on logs, oldest first. `lastLog` is the TBC of the
last memory-log entry per rate limit key (R469); `lastOk` the TBC from which host silence is counted (R471). -/
structure Events where
  pend : Nat := 0
  record : Tab EvRec := []
  vlog : List (List Byte) := []
  audit : List (List Byte) := []
  logs : Tab LogSt := []
  lastLog : Tab Nat := []
  lastOk : Nat := 0
  hostArmed : Bool := false
  deriving DecidableEq, Repr

/-! ## Banks (chapter 12) -/

/-- A physical bank: its power state (0 ON, 1 RET, 2 OFF), the state it moves to, its counts, and its last march result
(an entry of MT_RESULTS). `tests` counts its tests since power-on (R375). -/
structure Bank where
  st : Nat := 0
  moveTo : Option Nat := none
  failed : Bool := false
  ce : Nat := 0
  ue : Nat := 0
  tests : Nat := 0
  rTbc : Nat := 0
  result : Nat := 0
  rBack : Nat := 0
  rCount : Nat := 0
  rWord : Nat := 0xFFFF
  rCols : List Nat := []
  deriving DecidableEq, Repr

/-- The preserving test in progress (R378): the logical bank (or the spare of R383 alone), the spare, the phase 1–6, and
whether it belongs to the in-service pass. -/
structure MTest where
  bank : Nat
  spare : Nat
  phase : Nat
  alone : Bool := false
  deriving DecidableEq, Repr

/-- The SRAM side: physical banks, the served-by mapping (logical → physical where it is not its own), logical banks
failed, the march engine, its pass position, the banks eligible at the start of the pass and when the next test is due (R381), the banks
whose test a reset cut short (R382), the scrub position, when its pass began and the words read in it (R359), repair fuses (factory and customer records) and those
loaded at the last start, and words whose contents are uncorrectable or hold one wrong bit (word addresses a / 32). -/
structure Banks where
  phys : Tab Bank := []
  served : List (Nat × Nat) := []
  lfailed : List Nat := []
  test : Option MTest := none
  passNext : Nat := 0
  passCount : Nat := 0
  testDue : Nat := 0
  retest : List Nat := []
  scrubNext : Nat := 0
  scrubAt : Option Nat := none
  scrubbed : Nat := 0
  gen : Nat := 0
  passed : Nat := 0
  failures : Nat := 0
  factory : List Nat := List.replicate 128 0
  customer : List Nat := List.replicate 8 0
  fusing : Option Nat := none
  ue : List Nat := []
  ce : List Nat := []
  deriving DecidableEq, Repr

/-! ## Crossbar and DRAM (chapter 13) -/

/-- A response of the crossbar (R403): code, cause and the read data. -/
structure XResp where
  code : Nat := 0
  cause : Nat := 0
  data : List Byte := []
  deriving DecidableEq, Repr

/-- A request that waits for a grant, or that its master holds ready: its master, target, whether it was promoted (R404),
the unit it serves, the TBC from which it waits, whether it lacks credits (R397), and the transaction. -/
structure XWait where
  m : Nat
  t : Nat
  promoted : Bool := false
  tag : Nat
  addr : Nat
  wr : Bool
  fetch : Bool
  data : List Byte
  len : Nat
  unit : Nat := 0
  since : Nat := 0
  lacks : Bool := false
  deriving DecidableEq, Repr

/-- A lock in force at a target (R401): its master, its transaction tag and direction, and the members not yet performed,
as (address, bytes). -/
structure XLock where
  m : Nat
  t : Nat
  tag : Nat
  wr : Bool
  rest : List (Nat × Nat)
  deriving DecidableEq, Repr

/-- The crossbar's own state: the rotating pointer of each target (R398), requests issued and waiting, which hold their
credits at the target, transactions that a master holds ready and cannot issue yet (R397, R404), the lock in force, and
the last response each master received. -/
structure Xbar where
  ptr : Tab Nat := []
  waiting : List XWait := []
  ready : List XWait := []
  lock : Option XLock := none
  resp : Tab XResp := []
  deriving DecidableEq, Repr

/-- The DRAM controllers: the channels in use, the settings in use since the last start, the density, and refreshes
postponed per channel (R413). U and the per-channel objects are in the value table. -/
structure Dram where
  chans : List Nat := []
  rate : Nat := 3
  ecc : Bool := false
  patrolS : Nat := 86400
  density : Nat := 0
  postponed : Tab Nat := []
  patrolNext : Tab Nat := []
  selfRefresh : Bool := false
  deriving DecidableEq, Repr

/-! ## Power, reset and start-up (chapter 17) -/

/-- The start controller and the data plane's run state. `held`: power-on reset held. `run`: CCLK runs (step 2 done).
`open_`: the bridge serves (step 6). `enabled`: past the enable instant. `kind`: the start in progress or last (1 power-on,
2 data-plane reset, 3 standby exit, 4 thermal restart). `cold`: rails were removed, every bank is as at power-on.
`enables`: PWR_EN0–3 as a mask. `railAt`: TBC of the recent rail-fault restarts (R483). `die`: the die sensor in 0.1 °C.
`fresh`: no start since power-on has reached step 5, so that the next restores the control plane too (R99). -/
structure Power where
  held : Bool := false
  run : Bool := false
  open_ : Bool := false
  enabled : Bool := false
  kind : Nat := 1
  cold : Bool := true
  enables : Nat := 1
  railAt : List Nat := []
  railWait : Bool := false
  xoLost : Bool := false
  tripped : Bool := false
  dieHold : Bool := false
  stdbyAsked : Bool := false
  dramOk : Bool := false
  neighbourOk : Bool := false
  firstLock : Bool := false
  startTbc : Nat := 0
  firstFrame : Bool := false
  die : Int := 310
  fresh : Bool := true
  deriving DecidableEq, Repr

/-! ## References (chapter 4) -/

/-- A candidate's own state beside its objects: the one-second phases of the last 100 s (R115), oldest first, and by how many ps
the device lags behind it: the reference frame grid behind its frame pulses (R125), or on a worker TBC behind the parent's
for REF4 (R157); `none` until measured. -/
structure Cand where
  phases : List Int := []
  lag : Option Int := none
  deriving DecidableEq, Repr

/-- The reference selector and loop. `use`: commissioning values in use (those that differ from their defaults, R129).
`off`: loop frequency in ppb. `last10`: its values of the last 10 ms, newest first (R114). `hist`: locked seconds, newest
first, as (TBC, mean ppb) (R119). `okMs`: ms with the phase within ±20 ns. `hold`: the stored holdover frequency. `buildout`: the
phase difference stored at the selection, in ns; `slip`: what the slew limit, the ±20 ppm bound and realignment have added
since, in ps (R121, R122, R125).
`anchored`: A set since the last start (R135); `awaitPulse`: A waits for the reference's first pulse after lock, which came at
`lockAt`; `pulsed`: A is such a pulse. -/
structure Refs where
  cands : Tab Cand := []
  use : List (Nat × Val) := []
  off : Int := 0
  last10 : List Int := []
  hist : List (Nat × Int) := []
  secSum : Int := 0
  secMs : Nat := 0
  lockedMs : Nat := 0
  okMs : Nat := 0
  hold : Int := 0
  holdMs : Nat := 0
  buildout : Int := 0
  slip : Int := 0
  realign : Bool := false
  anchored : Bool := false
  awaitPulse : Bool := false
  lockAt : Nat := 0
  pulsed : Bool := false
  deriving DecidableEq, Repr

/-! ## Inputs (chapters 7, 5) -/

/-- A pixel as it goes into a ring (R218, R223), with the luma of its signal, 65,536 for full range (R221). -/
structure Pix where
  r : Nat
  g : Nat
  b : Nat
  y : Nat
  deriving DecidableEq, Repr

/-- A slot of a frame ring (R223, R226): whether it holds a complete frame, that frame's sequence number, size and
completion time, and whether a reader has used it (R232, R234). -/
structure Slot where
  full : Bool := false
  seq : Nat := 0
  w : Nat := 0
  h : Nat := 0
  doneAt : Nat := 0
  used : Bool := false
  deriving DecidableEq, Repr

/-- The conversion chosen for a frame (R219): RGB or YCbCr, full or limited range, matrix 0 BT.601, 1 BT.709, 2 BT.2020. -/
structure Conv where
  rgb : Bool := false
  full : Bool := false
  mat : Nat := 1
  deriving DecidableEq, Repr

/-- An input 0–31 or a virtual input 0x20 + v beside its objects. `rate` is the lane rate class locked to (0 1.5G, 1 3G,
2 6G, 3 12G; 4 DP). `seen` holds the size, total lines and scan of the last complete frame measured, `periods` the frame
periods received since, newest first, at most 16, `code` the rate code they match (R212), `psf` that the transport is PsF
(R213). `writer` is the slot that holds the writer token, `begun` says that a frame is being written into it (R226, R227). `dead` says that readers receive no frame (R238). `lossAt` is the TBC
of the last loss. `gaps` are the last 16 completion intervals (R233). `fields` are the two previous fields, newest first
(R221). `port` is the span port a tunnel comes by, `spoiled` says that a packet of its present frame was lost (R180). `dpcd` are the DPCD bytes a source has written, `reply` the last AUX answer (R215). -/
structure Input where
  port : Option Nat := none
  spoiled : Bool := false
  rate : Nat := 0
  seen : Option (Nat × Nat × Nat × Bool) := none
  periods : List Nat := []
  code : Nat := 0
  psf : Bool := false
  slots : List Slot := []
  writer : Option Nat := none
  begun : Bool := false
  newest : Option Nat := none
  startAt : Nat := 0
  lastDone : Option Nat := none
  gaps : List Nat := []
  seq : Nat := 0
  dead : Bool := true
  holding : Bool := false
  lossAt : Nat := 0
  conv : Conv := {}
  fields : List (List (List Pix)) := []
  dpcd : Tab Nat := []
  hpd : Bool := false
  hpdPulse : Option Nat := none
  reply : Option (List Byte) := none
  nack : Bool := false
  deriving DecidableEq, Repr

/-- A frame that a reader holds: its ring, slot, the address of its pixels, its row bytes and its size. `old` says that
the ring has been rebuilt since (R230). -/
structure Held where
  inp : Nat
  slot : Nat
  seq : Nat
  pix : Nat
  stride : Nat
  w : Nat
  h : Nat
  bytes : Nat
  old : Bool := false
  deriving DecidableEq, Repr

/-- A reader: the frames it holds (the frame shown, and under phase blend the older of the pair), the weight of the
newer (256 shows it alone), and the pair of its previous selection (R228, R233, R234). Reader e is that of video layer engine e;
reader 96 + e holds what its layer has left behind on an output: `left` is that output, and when (R231). -/
structure Reader where
  b : Option Held := none
  a : Option Held := none
  w : Nat := 256
  last : Option (Nat × Nat × Nat) := none
  left : Option (Nat × Nat) := none
  deriving DecidableEq, Repr

/-! ## Compositions and outputs (chapters 8, 9) -/

/-- A layer pixel: linear colour and alpha (R256). -/
structure LPix where
  r : Nat
  g : Nat
  b : Nat
  a : Nat
  deriving DecidableEq, Repr

/-- What a zone has gathered of the frame in progress (R263). -/
structure Zone where
  n : Nat := 0
  r : Nat := 0
  g : Nat := 0
  b : Nat := 0
  y : Nat := 0
  max : Nat := 0
  deriving DecidableEq, Repr

/-- An output's timing: active size, totals, rate code, phase and polarities, positive set (R275, R276). -/
structure Timing where
  w : Nat := 0
  h : Nat := 0
  ht : Nat := 0
  vt : Nat := 0
  code : Nat := 0
  phase : Int := 0
  hpos : Bool := true
  vpos : Bool := true
  deriving DecidableEq, Repr

/-- What goes with embedded audio (R306): channels, rate in Hz and word length of the InfoFrame and the channel status, and Maud and
Naud. -/
structure AudioInfo where
  ch : Nat
  rate : Nat
  bits : Nat
  maud : Nat
  naud : Nat
  deriving DecidableEq, Repr

/-- An output and its composition beside their objects. `tim` is the timing in use, `retime` the nominal start of the
first frame of a new timing (R279). `start` and `next` are the nominal starts of this frame and the next, `frames` the frames since the data-plane start.
`under` are the layer-tile pairs replaced in this frame (R285), `run` the frames in a row with UNDERRUN, `fresh` that the
present frame does not count there, since a Kickoff has applied (R287), `sawForce` that
OUT_FORCE_SAFE went 1 and 0 since the fallback (R287). `fallback` 1 on underruns, 2 forced. `segs` and `prev` are layer
segments of the line `segY` and of the line before (R284). `denied` are layer-tile pairs refused by a Gate in this frame
(R261). `stays` are values, as (index, subindex, value), that the output still uses in place of the active ones: old values of
library entries and of layers that its own apply point has not changed yet, and VL_OUTPUT or GL_OUTPUT 0xFF of layers that have left
it before they reach another output (R193, R240, R243). `sent` is the segment last transmitted: three codes or four pair words per
pixel, in LVDS dual link those of the even pixels, on link A, with `sentB` those of the odd ones, on link B (R274, R280).
`embed` are the sample frames that wait for the audio SDPs, `sdp` those that go with the present frame, in 2 or 8 channels, `embedK`
their number and `info` what is sent with them (R306, R307). -/
structure Output where
  on : Bool := false
  tim : Timing := {}
  retime : Option Nat := none
  start : Nat := 0
  next : Nat := 0
  frames : Nat := 0
  under : List (Nat × Nat × Nat) := []
  run : Nat := 0
  fresh : Bool := false
  fallback : Nat := 0
  sawForce : Bool := false
  leave : Bool := false
  segY : Nat := 0
  segs : Tab (List (Option LPix)) := []
  prev : Tab (List (Option LPix)) := []
  denied : List (Nat × Nat × Nat) := []
  stays : List (Nat × Nat × Val) := []
  zones : Tab Zone := []
  sent : List (List Nat) := []
  sentB : List (List Nat) := []
  sinkRate : Nat := 0
  sinkLanes : Nat := 0
  altScr : Bool := false
  embed : List (List Int) := []
  embedK : Nat := 0
  sdp : List (List Int) := []
  info : Option AudioInfo := none
  retryAt : Option Nat := none
  deriving DecidableEq, Repr

/-! ## Audio (chapter 10) -/

/-- Audio that comes in from one place: input 0–31, virtual input 0x20 + v, SAP RX side 0x40 + n. The FIFO of whole
frames between its clock and the matrix (R297, R313), the frame read last, whether reading has begun, the channels
carried, and the pairs muted as non-audio with the TBC at which their condition last held (R296). -/
structure Feed where
  fifo : List (List Int) := []
  last : List Int := []
  good : List Int := []
  going : Bool := false
  carried : Nat := 0
  mutes : List (Nat × Nat) := []
  deriving DecidableEq, Repr

/-- A ramp in progress (R321): in or out, the next index, and the length in samples and the shape it began with. -/
structure Ramp where
  up : Bool
  i : Nat
  len : Nat
  shape : Nat
  deriving DecidableEq, Repr

/-- A destination (R300, R303, R321): the route in use, its gain as a 24-bit fraction, the ramp in progress, the delay line (newest first) and the samples still to send as zero. -/
structure Dest where
  route : Nat := 0x3FF
  gain : Nat := 0
  ramp : Option Ramp := none
  line : List Int := []
  fill : Nat := 0
  last : Int := 0
  deriving DecidableEq, Repr

/-- What is kept of a source entry (R297, R299, R314): measured rate in 0.01 Hz, nominal code, slips, the TBC of the last
slip, ASRC lock. -/
structure SrcStat where
  rate : Nat := 0
  code : Nat := 0
  slips : Nat := 0
  slipAt : Option Nat := none
  locked : Bool := false
  deriving DecidableEq, Repr

/-- A serial audio port: TX FIFO, the frame sent last, and each slot as sent (`none` for high impedance); the last TBC at
which each side had a framing error; nominal rate codes; the TBC of the last frame of each side. -/
structure Sap where
  tx : List (List Int) := []
  txLast : List Int := []
  sent : List (Option Nat) := []
  rxErr : Option Nat := none
  txErr : Option Nat := none
  rxCode : Nat := 0
  txCode : Nat := 0
  rxAt : Option Nat := none
  txAt : Option Nat := none
  deriving DecidableEq, Repr

/-- A memory ring (R316–R320): frames between memory and matrix, for a capture ring with the TBC of each in `times`, the counts, the frame last played, the clip's length and
whether a start waits for the next sample period; `stop` counts the samples of the ramp that ends a clip. -/
structure Ring where
  buf : List (List Int) := []
  times : List Nat := []
  prod : Nat := 0
  cons : Nat := 0
  last : List Int := []
  clip : Nat := 0
  start : Bool := false
  stop : Option Nat := none
  deriving DecidableEq, Repr

/-- The audio engine. `now` is the TBC of the last matrix sample period. -/
structure Audio where
  feeds : Tab Feed := []
  dests : Tab Dest := []
  srcs : Tab SrcStat := []
  saps : Tab Sap := []
  rings : Tab Ring := []
  now : Option Nat := none
  deriving DecidableEq, Repr

/-! ## Lamps (chapter 11) -/

/-- A fade (R333): start, levels, time in ms and curve. -/
structure Fade where
  t0 : Nat
  g0 : Nat
  g1 : Nat
  ms : Nat
  curve : Nat
  deriving DecidableEq, Repr

/-- What drives LGATEn (R330): 0 off, 1 PWM, 2 analogue; the DAC code and the duty code; the current commanded, in 2^-39 mA. -/
structure Drive where
  mode : Nat := 0
  dac : Nat := 0
  duty : Nat := 0
  cur : Nat := 0
  deriving DecidableEq, Repr

/-- A lamp channel. `g` is G, `x1` and `x` the current fractions of steps 5 and 7, in 2^-24 and 2^-39, `k`, `d`, `sc` the factors in U1.15.
`rise` waits for BUDGET_RISE_APPLY (R341). `fails` are the failed measurements since the last pass (R345). `b25`, `b85` and `a85`
time the string voltage (R350). `target` is the last content-follow target, `fresh` one that waits for an evaluation
(R342). `held` says that the gate watchdog holds the gate (R473). `block` counts PWM periods of a probe block, `duty`
is the duty of the present PWM period, `on` its on-time in duty steps (R348). -/
structure Lamp where
  g : Nat := 0
  fade : Option Fade := none
  x1 : Nat := 0
  x : Nat := 0
  k : Nat := 0x8000
  d : Nat := 0x8000
  sc : Nat := 0x8000
  drive : Drive := {}
  rise : Option Drive := none
  fails : Nat := 0
  lastPass : Option Nat := none
  opened : Bool := false
  retryAt : Nat := 0
  b25 : Option Nat := none
  b85 : Option Nat := none
  a85 : Option Nat := none
  retestAt : Nat := 0
  target : Option Nat := none
  fresh : Option Nat := none
  held : Bool := false
  block : Nat := 0
  duty : Nat := 0
  on : Nat := 0
  deriving DecidableEq, Repr

/-- The lamp engine: channels, the last 16 samples of each thermistor (newest first), the TBC of the last tick, of the last evaluation, and
of the start from which verification ages run. -/
structure Lamps where
  ch : Tab Lamp := []
  therm : Tab (List Nat) := []
  now : Option Nat := none
  evalAt : Nat := 0
  since : Nat := 0
  deriving DecidableEq, Repr

/-! ## The persistent store (chapter 3) -/

/-- A 2 KiB sector of the MTP store: the header's fields (the copy's sequence number, the position within it, its sector
count, the erase count, the payload's CRC-32C, the marker word: 0 blank, 1 valid, 2 invalid), the payload, whether the
sector is retired, and whether its last programming failed its verify or was cut short, so that it holds no sector of a copy
(R104, R105, R107). -/
structure Sector where
  seq : Nat := 0
  pos : Nat := 0
  cnt : Nat := 0
  erases : Nat := 0
  crc : Nat := 0
  marker : Nat := 0
  data : List Byte := []
  retired : Bool := false
  bad : Bool := false
  deriving DecidableEq, Repr

/-- The MTP store, which survives power-on. `saving` is the snapshot a save in progress writes (R102), `since` the TBC at which
it began. -/
structure Mtp where
  sectors : Tab Sector := []
  saving : Option (List Byte) := none
  since : Nat := 0
  deriving DecidableEq, Repr

/-! ## Kickoff and Whistle (chapter 6) -/

/-- The Kickoff in progress: its tenant; whether a KICKOFF began it or has been accepted, and the epoch that KICKOFF named
(`none` for a relative one); the scope; this device's own prepare once made; the parts still to apply with their apply
points; the workers whose epoch is delivered and whose end is not yet known; whether the epoch waits for the enable instant
(R488); under STRICT, the lowest mapped worker that was absent (R189). `relayed`: it came down the tree (R199). `lost`: the data plane
has stopped since, and its reservations are gone (R201). `kten` is the tenant of the KICKOFF (R190); `fixed` the epoch in use, once it
is computed (R196, R197); `sent` says that the epoch has been delivered; `left` are the workers in scope that have left while it was
preparing (R200). -/
structure Kick where
  ten : Nat := 0
  kicked : Bool := false
  epoch : Option Nat := none
  selfIn : Bool := true
  scope : List Nat := []
  own : Option (Option Refuse) := none
  plan : List (Part × Nat) := []
  armed : List Nat := []
  waits : Bool := false
  absent : Option Nat := none
  relayed : Bool := false
  lost : Bool := false
  kten : Nat := 0
  fixed : Option Nat := none
  sent : Bool := false
  left : List Nat := []
  deriving DecidableEq, Repr

/-- The Whistle in progress: its entries, the parts still to apply, the workers reached, whether its epoch
waits, whether it came down the tree, whether the data plane has stopped since (R202), and whether its epoch has been delivered. -/
structure Whis where
  ten : Nat := 0
  epoch : Option Nat := none
  entries : List Staged := []
  plan : List (Part × Nat) := []
  armed : List Nat := []
  waits : Bool := false
  relayed : Bool := false
  lost : Bool := false
  sent : Bool := false
  deriving DecidableEq, Repr

/-! ## Managers, workers and span links (chapter 5) -/

/-- A packet of a channel: its sequence number, whether MORE is set, and its payload (R149). -/
structure Packet where
  seq : Nat
  more : Bool
  data : List Byte
  deriving DecidableEq, Repr

/-- One channel of a port, both directions (R150–R152). Sending: credits consumed, the peer's cumulative count of credits
freed, the next sequence, packets unacknowledged and packets that wait, the TBC of the last progress. Receiving: the
next sequence expected, credits received and credits freed, and the message gathered so far. -/
structure Chan where
  consumed : Nat := 0
  freed : Nat := 0
  seq : Nat := 0
  unacked : List Packet := []
  waiting : List Packet := []
  progress : Nat := 0
  expect_ : Nat := 0
  got : Nat := 0
  gave : Nat := 0
  part_ : List Byte := []
  deriving DecidableEq, Repr

/-- A block of a port's stream before it is scrambled (R145): a control block or a data block, and its 8 bytes. -/
structure Blk where
  ctl : Bool
  bytes : List Byte
  deriving DecidableEq, Repr

/-- What the source of a tunnel puts into a slot (R177): the input port, VIN_KIND, VIN_SAMPLING, VIN_RESERVE_FORMAT and
VIN_AUDIO_CHANNELS of the virtual input it is for. -/
structure TunnelSrc where
  inp : Nat
  kind : Nat
  sampling : Nat
  reserve : Nat
  ch : Nat
  deriving DecidableEq, Repr

/-- What a HELLO says of the peer (R154). -/
structure Peer where
  role : Nat
  depth : Nat
  lanes : Nat
  serial : Nat
  bus : Nat
  state : Nat
  deriving DecidableEq, Repr

/-- A span port beside its objects. `lanes` locked at both ends; `sent` holds the control block last sent of each type;
`t12` is (sequence, t1, t2) of the last TSYNC, `t3` (sequence, time) of the last DELAY_REQ, in 1/32 ticks; `offs` the
offsets of the last 16 exchanges, newest first (R155). `out` and `inn` are the tunnel slots set up: those it sends with the
Mbit/s reserved, those it receives with the virtual input they are for, if it is one of this device. `srcs` are the slots that
carry an input of this device, `carry` what was last put into each (R177). `seen` is the TBC of the last log entry per
violation cause (R182). `missed` counts ALIGN blocks missing in succession (R147). `blocks` counts the blocks sent since the
link came up, the IDLE blocks that fill a stream with nothing to send left aside; `scr` is the scrambler of each lane, its last
58 bits sent; `wire` are the blocks of the last transmission, as (lane, 66 bits, first bit first) (R145). -/
structure Port where
  lanes : Nat := 0
  peer : Option Peer := none
  chans : Tab Chan := []
  sent : Tab (List Byte) := []
  seq : Nat := 0
  t12 : Option (Nat × Nat × Nat) := none
  t3 : Option (Nat × Nat) := none
  offs : List Int := []
  out : Tab Nat := []
  inn : Tab (Option Nat) := []
  srcs : Tab TunnelSrc := []
  carry : Tab TunnelItem := []
  seen : Tab Nat := []
  missed : Nat := 0
  blocks : Nat := 0
  scr : List (BitVec 58) := []
  wire : List (Nat × List Bool) := []
  deriving DecidableEq, Repr

/-- A worker that this device knows below it: its address, serial, depth, parent and the parent's downstream port, the
path from this device, this device's own port towards it, and the automatic roll calls missed in succession (R160,
R163, R168). -/
structure Member where
  addr : Nat
  serial : Nat
  depth : Nat := 0
  parent : Nat := 0
  pport : Nat := 0
  path : Nat := 0
  port : Nat
  missed : Nat := 0
  deriving DecidableEq, Repr

/-- A subscription of this worker (R172, R173): the tenant, the object, the value last pushed and when. -/
structure Sub where
  ten : Nat
  idx : Nat
  sub : Nat
  val : List Byte := []
  at_ : Nat := 0
  sent : Bool := false
  drop_ : Bool := false
  deriving DecidableEq, Repr

/-- An entry of the eviction buffer (R175): the subscription, its last value and latch time. -/
structure Evicted where
  ten : Nat
  idx : Nat
  sub : Nat
  val : List Byte
  latch : Nat
  deriving DecidableEq, Repr

/-- A mirror entry of this manager (R173, R174). -/
structure Mirror where
  w : Nat
  ten : Nat
  idx : Nat
  sub : Nat
  val : List Byte := []
  latch : Nat := 0
  snooped : Nat := 0
  filled : Bool := false
  deriving DecidableEq, Repr

/-- A roll call in progress (R166): its generation, when ROLL was sent, whether it is an automatic one, and the
census entries received. -/
structure Roll where
  gen : Nat
  at_ : Nat
  auto_ : Bool
  got : List (Nat × List Byte) := []
  deriving DecidableEq, Repr

/-- The hierarchy beside its objects. `bus` is the manager bus address; `joining` the TBC of the last JOIN_REQ; `retryAt` of
the next; `gone` the TBC at which bound workers left (R160); `tag` the next snoop tag; `held` the relayed requests
whose final result this worker's upstream port has still to collect, as (tenant, echo) (R169). `round` is the sequence
number of the frames this manager makes next for a Kickoff or a Whistle (log entry 39). `rolls` are the roll calls in progress,
oldest first; `lost` the serials of workers that a roll call declared left and that have not joined since (R166). -/
structure Spans where
  ports : Tab Port := []
  bus : Nat := 0
  hops : Nat := 0
  path : Nat := 0
  joining : Option Nat := none
  retryAt : Option Nat := none
  members : List Member := []
  gone : List (Nat × Nat) := []
  gen : Nat := 0
  rolls : List Roll := []
  lost : List Nat := []
  subs : List Sub := []
  evicted : List Evicted := []
  mirrors : List Mirror := []
  tag : Nat := 0
  held : List (Nat × Nat) := []
  round : Nat := 0
  deriving DecidableEq, Repr

/-! ## The cue engine (chapter 14) -/

/-- A cue port request (R431): the opcode, its operands, and the register that takes the result. -/
structure PortReq where
  op : Nat
  rd : Nat
  a : Word
  b : Word
  deriving DecidableEq, Repr

/-- A queued blit (R440): its context and tenant, its descriptor's fields, and the next row. -/
structure Blit where
  x : Nat
  ten : Nat
  src : Nat
  dst : Nat
  srcStride : Nat
  dstStride : Nat
  width : Nat
  height : Nat
  op : Nat
  row : Nat := 0
  deriving DecidableEq, Repr

/-- A context (R417) with the objects that show it. `st` is CX_STATE; `wait` CX_WAIT. `buf` is the prefetch buffer, as words
by address (R420). `waitOn` is what a wait waits for, `waitRd` the register it writes. `port` is a cue port request in
progress, `halt` a halt that waits for it, `step` that one instruction only is to run. `blitErr` is the first failure
since the last BWAIT (R441). `size` is the present size of CX_REGS (R93; log entry 95). -/
structure Ctx where
  pc : Nat := 0
  regs : Tab Word := []
  cs : Nat := 0
  sig : Nat := 0
  st : Nat := 0
  wait : Nat := 0
  waitOn : Nat := 0
  waitRd : Nat := 0
  step : Bool := false
  halt : Bool := false
  port : Option PortReq := none
  buf : List (Nat × Nat) := []
  fault : Nat := 0
  faultPc : Nat := 0
  faultAddr : Nat := 0
  post : Nat := 0
  posts : Nat := 0
  blitErr : Nat := 0
  size : Nat := 136
  deriving DecidableEq, Repr

/-- The cue engine: contexts and the blit queue, oldest first. -/
structure Cue where
  ctx : Tab Ctx := []
  blits : List Blit := []
  deriving DecidableEq, Repr

/-! ## Boundary scan (chapter 18) -/

/-- The sixteen states of the IEEE 1149.1 TAP controller. -/
inductive Tap where
  | reset | idle
  | selectDr | captureDr | shiftDr | exit1Dr | pauseDr | exit2Dr | updateDr
  | selectIr | captureIr | shiftIr | exit1Ir | pauseIr | exit2Ir | updateIr
  deriving DecidableEq, Repr

/-- The JTAG port: the TAP state, the instruction in force and the instruction shift register, the bypass bit, the
boundary-scan shift register and the update cells (TDI end first), and TDO (`none` while undriven). -/
structure Jtag where
  tap : Tap := .reset
  ir : BitVec 8 := 0xFF#8
  irShift : List Bool := []
  bypass : Bool := false
  shift : List Bool := []
  cells : List Bool := []
  tdo : Option Bool := none
  deriving DecidableEq, Repr

end Sys2Proof.Machine
end

