-- ==== Sys2Proof/Machine/State.lean ====
section
/-! DEFINITION. The machine's state as plain data, the reasons a step can stop, and the state after reset. -/
namespace Sys2Proof.Machine

/-- Faults. The block has none: no rule of the spec stops the device for good. The one constructor is there because a
closed type needs one; no meaning raises it (safe). -/
inductive Fault where
  /-- Raised by no meaning. -/
  | none
  deriving DecidableEq, Repr

/-- Refusals. -/
inductive Refusal where
  /-- A command that has no meaning yet; raised by an arm of `exec` only (safe: the run stops). -/
  | notModelled (mnemonic : String)
  deriving DecidableEq, Repr

/-- The whole device (one manager or one worker). `objs` is the home of every object value that no block keeps for
itself: keys are index × 256 + subindex, and only values that differ from the object's default are listed. `mem` is
SRAM and DRAM by crossbar address; an unlisted byte reads 0x00. `seed` is the model's own counter of free values drawn
(log entry 11). `pending` is the queue of commands that wait. -/
structure State where
  straps : Straps := {}
  power : Power := {}
  tbc : Nat := 0
  sck : Nat := 0
  objs : List (Nat × Val) := []
  link : Link := {}
  queue : List BEntry := []
  staging : List Staged := []
  tenants : Tab Tenant := []
  ev : Events := {}
  bank : Banks := {}
  xb : Xbar := {}
  dram : Dram := {}
  refs : Refs := {}
  inputs : Tab Input := []
  readers : Tab Reader := []
  outputs : Tab Output := []
  audio : Audio := {}
  lamps : Lamps := {}
  mtp : Mtp := {}
  kick : Option Kick := none
  whis : Option Whis := none
  spans : Spans := {}
  cue : Cue := {}
  jtag : Jtag := {}
  mem : List Host.Cell := []
  seed : Nat := 0
  pending : List Instr := []
  deriving DecidableEq, Repr

/-- Whether the ROLE strap made the device a manager. -/
def State.mgr (s : State) : Bool := !s.straps.worker

/-- The state at the release of power-on reset with the straps given (R480, R481). -/
def State.resetWith (st : Straps) : State := { straps := st }

/-- The state after reset: power-on reset released with every strap pin open, so that each reads 0 (R480): a manager,
ADDR 0, LVCMOS. -/
def State.reset : State := State.resetWith {}

end Sys2Proof.Machine
end

