-- ==== Sys2Proof/Machine/Objs.lean ====
section
/-! DEFINITION. Reading and writing the value table, the event bits and records (R458–R462), the always-on logs
(R464, R466, R457), free values and tenants. -/
namespace Sys2Proof.Machine

/-! ## The value table -/

/-- The value of an object. -/
def State.getV (s : State) (idx sub : Nat) : Val := tabGet (dfltVal s.mgr idx sub) s.objs (objKey idx sub)

/-- The number an object holds. -/
def State.getN (s : State) (idx sub : Nat) : Nat := (s.getV idx sub).nat

/-- The bytes an object holds. -/
def State.getB (s : State) (idx sub : Nat) : List Byte := (s.getV idx sub).data

/-- Set an object's value; a value equal to the default leaves no entry. -/
def State.setV (s : State) (idx sub : Nat) (v : Val) : State :=
  { s with objs := tabSet (dfltVal s.mgr idx sub) s.objs (objKey idx sub) v }

def State.setN (s : State) (idx sub v : Nat) : State := s.setV idx sub (.num v)
def State.setB (s : State) (idx sub : Nat) (l : List Byte) : State := s.setV idx sub (.bytes l)

/-- Values laid over objects, as (index, subindex, value). -/
def State.lay (s : State) (l : List (Nat × Nat × Val)) : State := l.foldl (fun s e => s.setV e.1 e.2.1 e.2.2) s

/-- Set or clear one bit of a BITS32 object. -/
def State.setBit (s : State) (idx sub i : Nat) (b : Bool) : State := s.setN idx sub (putBit (s.getN idx sub) i b)
def State.getBit (s : State) (idx sub i : Nat) : Bool := bitAt (s.getN idx sub) i

/-- The saturation limit of an object's type (R69, R387). -/
def tyMax (mgr : Bool) (idx sub : Nat) : Nat :=
  match findObj mgr idx sub with
  | some o => 2 ^ (8 * o.d.ty.size) - 1
  | none => maxU32

/-- Add to a saturating counter object. -/
def State.addN (s : State) (idx sub n : Nat) : State :=
  s.setN idx sub (satAdd (tyMax s.mgr idx sub) (s.getN idx sub) n)

/-- Count one. -/
def State.count (s : State) (idx sub : Nat) : State := s.addN idx sub 1

/-! ## Tenants -/

def State.tenant (s : State) (t : Nat) : Tenant := tabGet {} s.tenants t
def State.setTenant (s : State) (t : Nat) (x : Tenant) : State := { s with tenants := tabSet {} s.tenants t x }

/-- Whether a tenant is enabled (tenant 0 always, R446). -/
def State.tenEnabled (s : State) (t : Nat) : Bool := t == 0 || s.getN (0x1380 + t) 1 == 1

/-- The Kickoff right (R187, R453); tenant 0 always holds it (R446). -/
def State.kickRight (s : State) (t : Nat) : Bool := t == 0 || bitAt (s.getN (0x1380 + t) 4) 0

/-- Whether a tenant is locked out (R449). -/
def State.lockedOut (s : State) (t : Nat) : Bool := decide (0 < (s.tenant t).lock)

/-- The 16 bytes of a tenant's code in force (R451). -/
def State.code (s : State) (t : Nat) : List Byte := toBE 8 (s.getN (0x1380 + t) 2) ++ toBE 8 (s.getN (0x1380 + t) 3)

/-! ## Span ports -/

def State.port (s : State) (p : Nat) : Port := tabGet {} s.spans.ports p
def State.setPort (s : State) (p : Nat) (x : Port) : State := { s with spans := { s.spans with ports := tabSet {} s.spans.ports p x } }

/-! ## Free values -/

/-- Advance the counter of free values. -/
def State.drawn (s : State) : State := { s with seed := s.seed + 1 }

/-! ## Time -/

/-- The time stamp of an entry the control plane makes: TBC while the data plane runs, else the SCK edge count (R71, R463). -/
def State.stamp (s : State) : Nat := if s.power.run then s.tbc else s.sck

/-- The flag bit of such a stamp. -/
def State.stampFlag (s : State) : Nat := b2n (!s.power.run)

/-- Move TBC forward by `d` ticks: lockout timers run with it (R449), and only while the data plane runs (R131). -/
def State.passTicks (s : State) (d : Nat) : State :=
  if s.power.run then
    { s with tbc := (s.tbc + d) % 2 ^ 64, tenants := s.tenants.map (fun p => (p.1, { p.2 with lock := p.2.lock - d })) }
  else s

/-- A data-plane happening at TBC `t`: time moves to it if it lies ahead (log entry 2). -/
def State.atTime (s : State) (t : Nat) : State := if s.tbc < t then s.passTicks (t - s.tbc) else s

/-! ## Events (R458, R462) -/

/-- Record an occurrence of an event bit in EVENT_RECORD (R462). -/
def State.recordEv (s : State) (b : Nat) : State :=
  let r := tabGet {} s.ev.record b
  let r' : EvRec := { time := s.stamp, count := satAdd maxU32 r.count 1, sckTime := !s.power.run }
  { s with ev := { s.ev with record := tabSet {} s.ev.record b r' } }

/-- An edge event occurs: the bit is set and the occurrence recorded (R458). DEFERRED_READY (bit 0) is never set in a
worker's EVENT_PENDING, but is recorded (R461). -/
def State.event (s : State) (b : Nat) : State :=
  let s := s.recordEv b
  if b = 0 ∧ s.straps.worker then s else { s with ev := { s.ev with pend := putBit s.ev.pend b true } }

/-- WORKER_EVENT (bit 11) follows WORKER_EVENT_MAP (R458, R461); an occurrence is a change from clear to set (R462). -/
def State.followWorkerMap (s : State) : State :=
  let on := (s.getB 0x1212 0).any (fun b => !(b == 0#8))
  if on && !(bitAt s.ev.pend 11) then
    let s := s.recordEv 11
    { s with ev := { s.ev with pend := putBit s.ev.pend 11 true } }
  else if on then s
  else { s with ev := { s.ev with pend := putBit s.ev.pend 11 false } }

/-- DZ_ATTN is low exactly while a pending bit is unmasked; released by a worker, while the power-on reset is held, and
by a manager strapped LINKMODE 0b11 (R460, R67, R33). -/
def State.attnLow (s : State) : Bool :=
  s.mgr && !s.power.held && s.straps.linkmode != 3#2 && !((s.ev.pend &&& s.getN 0x1401 0) == 0)

/-! ## The always-on logs -/

/-- The last six bytes of an entry, made exactly six. -/
def six (l : List Byte) : List Byte := padTo 6 l

/-- The common entry form (R464). -/
def logEntry (time code flags : Nat) (tail : List Byte) : List Byte :=
  toLE 8 time ++ [BitVec.ofNat 8 code, BitVec.ofNat 8 flags] ++ six tail

def State.logSt (s : State) (l : Nat) : LogSt := tabGet {} s.ev.logs l
def State.setLogSt (s : State) (l : Nat) (x : LogSt) : State := { s with ev := { s.ev with logs := tabSet {} s.ev.logs l x } }

/-- One entry more in a log's pointers: the sequence number runs modulo 65,535 (R464). -/
def LogSt.push (x : LogSt) : LogSt :=
  { x with held := min 256 (x.held + 1), next := (x.next + 1) % 65535, total := satAdd maxU32 x.total 1, lost := false,
           pos := (x.pos + 1) % 256 }

/-- An entry in 0x1410 VIOLATION_LOG (R464, R466), and the VIOLATION event. -/
def State.violation (s : State) (cause : Nat) (tail : List Byte) : State :=
  let e := logEntry s.stamp cause s.stampFlag tail
  let s := { s with ev := { s.ev with vlog := lastN 256 (s.ev.vlog ++ [e]) } }
  (s.setLogSt 0 (s.logSt 0).push).event 2

/-- A link violation (R71): counted in DZ_VIOLATIONS and entered with request bytes 1, 2, 3, 7 and the index (R466). -/
def State.linkViolation (s : State) (cause : Nat) (b1 b2 b3 b7 idx : Nat) : State :=
  (s.count 0x1102 3).violation cause
    ([b1, b2, b3, b7].map (BitVec.ofNat 8) ++ toLE 2 idx)

/-- A span violation (R182, R466): every occurrence counts in SP_VIOLATIONS of its port. -/
def State.spanViolation (s : State) (cause port chan code : Nat) : State :=
  (s.count (0x2C00 + port) 0x0B).violation cause ([port, chan, code, 0, 0, 0].map (BitVec.ofNat 8))

/-- An audit record (R457): the log holds 128 entries, oldest overwritten. -/
def State.audit (s : State) (kind req subj idx sub status : Nat) : State :=
  let e := [kind, req, subj, s.stampFlag].map (BitVec.ofNat 8) ++ toLE 2 idx ++
    [BitVec.ofNat 8 sub, BitVec.ofNat 8 status] ++ toLE 8 s.stamp
  ({ s with ev := { s.ev with audit := lastN 128 (s.ev.audit ++ [e]) } }).count 0x1300 3

end Sys2Proof.Machine
end

