-- ==== Sys2Proof/Machine/Crossbar.lean ====
section
/-! DEFINITION. Memory and the crossbar: the address map and the remap window (R388–R390), Gates (R369–R372), bank power
(R361), the bit-set and bit-clear aliases (R365), ECC (R356–R358, R411), the order of causes (R403), and the data-plane
logs that M18 writes to SRAM (R464–R470). -/
namespace Sys2Proof.Machine

/-! ## Bytes of memory -/

/-- The byte at a crossbar address, 0x00 where nothing is listed (log entry 3). -/
def memByte (mem : List Host.Cell) (a : Nat) : Byte := tabGet 0#8 mem a

/-- Write one byte, keeping the canonical form. -/
def memPut (mem : List Host.Cell) (a : Nat) (b : Byte) : List Host.Cell := tabSet 0#8 mem a b

/-- The canonical form of memory: addresses strictly rising, no listed 0x00. -/
def Memory.wf (mem : List Host.Cell) : Bool := Tab.wf 0#8 mem

/-- `n` bytes from `a`. -/
def memRead (mem : List Host.Cell) : Nat → Nat → List Byte
  | _, 0 => []
  | a, n + 1 => memByte mem a :: memRead mem (a + 1) n

/-- Write a byte list from `a` upward. -/
def memWrite (mem : List Host.Cell) : Nat → List Byte → List Host.Cell
  | _, [] => mem
  | a, b :: t => memWrite (memPut mem a b) (a + 1) t

/-- Remove every byte listed in `[a, a + n)`: the contents read as zero. -/
def memErase (mem : List Host.Cell) (a n : Nat) : List Host.Cell := mem.filter (fun c => !inRange c.1 a n)

/-! ## The address map -/

def sramBase : Nat := 0x10000000
def sramSize : Nat := 0x4000000
def romBase : Nat := 0x3E000000
def regBase : Nat := 0x3F000000
def dramBase : Nat := 0x40000000

/-- What an address resolves to after the remap window (R390): `none` where the window leaves it unmapped. -/
def remapAddr (remap : Bool) (a : Nat) : Option Nat :=
  if a < 0x40000 then
    if remap then some (sramBase + a) else if a < 0x10000 then some (romBase + a) else none
  else some a

/-- What lies at a resolved address (R388). -/
inductive Place where
  | sram (o : Nat) (alias_ : Nat)   -- offset, 0 plain, 1 bit-set, 2 bit-clear
  | rom (o : Nat)
  | regs (o : Nat)
  | dram (o : Nat)
  | unmapped
  deriving DecidableEq, Repr

/-- The address map (R388, R389); `u` is DR_USABLE_BYTES. -/
def place (u a : Nat) : Place :=
  if inRange a sramBase (3 * sramSize) then .sram ((a - sramBase) % sramSize) ((a - sramBase) / sramSize)
  else if inRange a romBase 0x10000 then .rom (a - romBase)
  else if inRange a regBase 0x1000000 then .regs (a - regBase)
  else if inRange a dramBase u then .dram (a - dramBase)
  else .unmapped

/-- DR_USABLE_BYTES. -/
def State.dramU (s : State) : Nat := s.getN 0x2A30 4

/-- The channel a DRAM offset falls to (R410). -/
def State.dramChan (s : State) (o : Nat) : Nat := s.dram.chans.getD ((o >>> 8) % max 1 s.dram.chans.length) 0

/-- The target port of a place (R388, R354). -/
def State.targetOf (s : State) : Place → Option Nat
  | .sram o _ => some (o >>> 23)
  | .rom _ => some 13
  | .regs _ => some 12
  | .dram o => some (8 + s.dramChan o)
  | .unmapped => none

/-- Whether MEM_REMAP is 1. -/
def State.remap (s : State) : Bool := s.getN 0x1F10 0 == 1

/-! ## Banks -/

def State.phys (s : State) (p : Nat) : Bank := tabGet {} s.bank.phys p
def State.setPhys (s : State) (p : Nat) (b : Bank) : State := { s with bank := { s.bank with phys := tabSet {} s.bank.phys p b } }

/-- The physical bank that serves a logical bank (R354). -/
def State.servedBy (s : State) (b : Nat) : Nat := ((s.bank.served.find? (fun q => q.1 == b)).map (·.2)).getD b

/-- The logical bank a physical bank serves: its own number, or the bank a spare stands for. -/
def State.serves (s : State) (p : Nat) : Option Nat :=
  match s.bank.served.find? (fun q => q.2 == p) with
  | some q => some q.1
  | none => if p < 512 then if (s.bank.served.any (fun q => q.1 == p)) then none else some p else none

/-- Whether a logical bank refuses accesses: not ON (a bank moving to ON stalls instead), or failed (R361). -/
def State.bankRefuses (s : State) (b : Nat) : Bool :=
  let k := s.phys (s.servedBy b)
  s.bank.lfailed.contains b || (!(k.st == 0) && !(k.moveTo == some 0))

/-- A physical bank's base address as the logical bank it serves. -/
def bankAddr (b : Nat) : Nat := sramBase + b * 0x20000

/-- A logical bank's contents are lost: they read as zero with valid check bits (R360). -/
def State.eraseBank (s : State) (b : Nat) : State :=
  let inB := fun (w : Nat) => inRange (w * 32) (bankAddr b) 0x20000
  let bk := { s.bank with ue := s.bank.ue.filter (fun w => !inB w), ce := s.bank.ce.filter (fun w => !inB w) }
  { s with mem := memErase s.mem (bankAddr b) 0x20000, bank := bk }

/-- The transition of physical bank `p` ends (R360): a bank that was or becomes OFF has lost its contents. -/
def State.bankReady (s : State) (p : Nat) : State :=
  let k := s.phys p
  match k.moveTo with
  | none => s
  | some st =>
    let s := s.setPhys p { k with st := st, moveTo := none }
    if st = 2 ∨ k.st = 2 then (match s.serves p with | some b => s.eraseBank b | none => s) else s

/-- An access to a logical bank that is moving to ON stalls until it is ON (R361). -/
def State.bankStall (s : State) (b : Nat) : State :=
  if (s.phys (s.servedBy b)).moveTo = some 0 then s.bankReady (s.servedBy b) else s

/-! ## Gates -/

/-- An enabled Gate of a master: its number, base, limit and attributes. -/
structure Gate where
  g : Nat
  base : Nat
  limit : Nat
  attr : Nat

/-- The enabled Gates of master `m`, in number order. -/
def State.gates (s : State) (m : Nat) : List Gate :=
  (List.range 8).filterMap (fun g =>
    let a := s.getN (0x2910 + m) (0x11 + g)
    if bitAt a 15 then some { g := g, base := s.getN (0x2910 + m) (1 + g), limit := s.getN (0x2910 + m) (9 + g), attr := a } else none)

/-- The TAG field. -/
def Gate.tag (g : Gate) : Nat := bits g.attr 6 0

/-- Whether a Gate matches a beat whose bytes are `lo` to `hi` (R369). -/
def Gate.hits (g : Gate) (tag lo hi : Nat) : Bool :=
  decide (g.base ≤ lo) && decide (hi ≤ g.limit) && (g.tag == 0 || g.tag == tag)

/-- A request at the crossbar; `late` is the cycles that it has stalled or waited. -/
structure XReq where
  m : Nat
  tag : Nat
  addr : Nat
  len : Nat
  wr : Bool
  fetch : Bool
  data : List Byte
  late : Nat := 0
  deriving DecidableEq, Repr

/-- The beats of an access: first and last byte in each 32-byte word (R393). -/
def beatsOf (a n : Nat) : List (Nat × Nat) :=
  if n = 0 then [] else
  (List.range ((a + n - 1) / 32 + 1 - a / 32)).map (fun i =>
    let w := (a / 32 + i) * 32
    (max a w, min (a + n - 1) (w + 31)))

/-- An instruction fetch: only M11 issues one (R370). -/
def XReq.isFetch (x : XReq) : Bool := x.fetch && x.m == 11

/-- Whether the matching Gates permit an access (R370): the intersection of their permissions. -/
def gatePermits (x : XReq) (hit : List Gate) : Bool :=
  !hit.isEmpty && hit.all (fun g => bitAt g.attr (if x.wr then 13 else if x.isFetch then 12 else 14))

/-- The first beat that the Gates refuse, with the tag it is attributed to (R370, R371); `none` when all are permitted. -/
def gateRefusal (gs : List Gate) (x : XReq) (a : Nat) : Option Nat :=
  if gs.isEmpty then none else
  (beatsOf a x.len).findSome? (fun b =>
    let hit := gs.filter (fun g => g.hits x.tag b.1 b.2)
    if gatePermits x hit then none else some ((hit.head?.map Gate.tag).getD x.tag))

/-- The tag a permitted access is attributed to (R371). -/
def gateTag (gs : List Gate) (x : XReq) (a : Nat) : Nat :=
  match gs.filter (fun g => g.hits x.tag a a) with
  | g :: _ => g.tag
  | [] => x.tag

/-! ## ECC -/

/-- Whether ECC covers a place: SRAM always, DRAM with inline ECC in use (R411). -/
def State.eccAt (s : State) : Place → Bool
  | .sram _ _ => true
  | .dram _ => s.dram.ecc
  | _ => false

/-- The memory address of a place: aliases fall on their SRAM word (R365). -/
def cellAddr : Place → Nat
  | .sram o _ => sramBase + o
  | .rom o => romBase + o
  | .regs o => regBase + o
  | .dram o => dramBase + o
  | .unmapped => 0

/-- Count a corrected error (R357, R411). A DRAM controller writes the correction back. -/
def State.countCE (s : State) (p : Place) (a : Nat) : State :=
  match p with
  | .dram o =>
    let s := s.count (0x2A40 + s.dramChan o) 4
    { s with bank := { s.bank with ce := s.bank.ce.filter (fun w => !(w == a / 32)) } }
  | .sram o _ =>
    let k := s.servedBy (o >>> 17)
    let b := s.phys k
    ((s.count 0x2901 3).setPhys k { b with ce := satAdd 0xFFFF b.ce 1 }).setN 0x2901 5 a
  | _ => s

/-- Count an uncorrectable error (R358, R411) and raise MEMORY_UE. -/
def State.countUE (s : State) (p : Place) (a : Nat) : State :=
  match p with
  | .dram o => (((s.count (0x2A40 + s.dramChan o) 5).setN (0x2A40 + s.dramChan o) 6 a)).event 20
  | .sram o _ =>
    let k := s.servedBy (o >>> 17)
    let b := s.phys k
    ((((s.count 0x2901 4).setPhys k { b with ue := satAdd 0xFFFF b.ue 1 })).setN 0x2901 6 a).event 20
  | _ => s

/-! ## The data an access moves -/

/-- The byte a read returns at a resolved place. ROM and register bytes are free values (log entries 12, 13). -/
def State.readByte (s : State) (p : Place) (i : Nat) : Byte :=
  match p with
  | .sram o _ => memByte s.mem (sramBase + o + i)
  | .dram o => memByte s.mem (dramBase + o + i)
  | .rom o => Config.romByte (o + i)
  | .regs o => Config.regByte s.seed (o + i)
  | .unmapped => 0#8

/-- The byte a write leaves: plain, bit-set or bit-clear (R365). -/
def aliasByte (k : Nat) (old new : Byte) : Byte :=
  if k = 0 then new else if k = 1 then old ||| new else old &&& (BitVec.not new)

/-- Perform one beat of a read: the bytes, and whether the word was uncorrectable. -/
def State.readBeat (s : State) (u : Nat) (b : Nat × Nat) : State × List Byte × Bool :=
  let p := place u b.1
  let a := cellAddr p
  let n := b.2 + 1 - b.1
  if s.eccAt p && s.bank.ue.contains (a / 32) then (s.countUE p (a / 32 * 32), zeros n, true)
  else
    let data := (List.range n).map (s.readByte p)
    let s := if s.eccAt p && s.bank.ce.contains (a / 32) then s.countCE p (a / 32 * 32) else s
    (s, data, false)

/-- Perform one beat of a write; a partial or alias write of an uncorrectable word leaves it unwritten (R358). -/
def State.writeBeat (s : State) (u : Nat) (whole : Bool) (b : Nat × Nat) (data : List Byte) : State × Bool :=
  let p := place u b.1
  let a := cellAddr p
  let k := match p with
    | .sram _ k => k
    | _ => 0
  let full := whole || (decide (data.length = 32) && k == 0)
  let word := a / 32
  if !full && s.eccAt p && s.bank.ue.contains word then (s.countUE p (word * 32), true)
  else
    let s := if !full && s.eccAt p && s.bank.ce.contains word then s.countCE p (word * 32) else s
    let s := { s with bank := { s.bank with ce := s.bank.ce.filter (fun w => !(w == word)),
                                            ue := s.bank.ue.filter (fun w => !(w == word)) } }
    let new := (List.range data.length).map (fun i => aliasByte k (memByte s.mem (a + i)) (data.getD i 0#8))
    match p with
    | .sram _ _ => ({ s with mem := memWrite s.mem a new }, false)
    | .dram _ => ({ s with mem := memWrite s.mem a new }, false)
    | _ => (s, false)

/-- The word a beat touches. -/
def beatWord (u : Nat) (b : Nat × Nat) : Nat := cellAddr (place u b.1) / 32 * 32

/-- Perform every beat of a read (R358: each other beat is performed as usual), with the uncorrectable words met. -/
def State.readBeats (s : State) (u : Nat) : List (Nat × Nat) → State × List Byte × List Nat
  | [] => (s, [], [])
  | b :: t =>
    let (s1, d, bad) := s.readBeat u b
    let (s2, d2, bad2) := s1.readBeats u t
    (s2, d ++ d2, if bad then beatWord u b :: bad2 else bad2)

/-- Perform every beat of a write. -/
def State.writeBeats (s : State) (u : Nat) (whole : Bool) : List (Nat × Nat) → List Byte → State × List Nat
  | [], _ => (s, [])
  | b :: t, data =>
    let n := b.2 + 1 - b.1
    let (s1, bad) := s.writeBeat u whole b (data.take n)
    let (s2, bad2) := s1.writeBeats u whole t (data.drop n)
    (s2, if bad then beatWord u b :: bad2 else bad2)

/-! ## Accesses and the logs -/

/-- Record a response other than OKAY at its master (R403). -/
def State.xbError (s : State) (x : XReq) (cause : Nat) : State :=
  (s.count (0x2A10 + x.m) 6).setN (0x2A10 + x.m) 7
    ((cause <<< 56) ||| (x.tag <<< 49) ||| (b2n x.wr <<< 48) ||| (x.addr % 2 ^ 36))

/-- Unloaded latency in cycles (R392). Whether a DRAM row was open is a free value (log entry 14). -/
def State.latency (s : State) (x : XReq) (t : Nat) : Nat :=
  let k := 2 * (xbSlices x.m t).getD 0
  let beats := (beatsOf x.addr x.len).length
  (if t ≤ 7 then if x.wr then 5 + k else 6 + k
   else if t ≤ 11 then if x.wr then 24 + k else (if Config.rowOpen s.seed then 52 else 70) + k
   else if t = 12 then 12 + k else 8 + k) + (if x.wr then 0 else beats - 1)

/-- One transaction of a master, checked in the order of R403 and performed; and, with it, the log entries it causes.
`fuel` bounds the nesting of an access that M18 makes to log another access. -/
def xbRun : Nat → State → XReq → State × XResp
  | fuel, s, x =>
    let s := (s.count (0x2A10 + x.m) 3)
    let s := s.setN (0x2A10 + x.m) 0x0A (max 1 (s.getN (0x2A10 + x.m) 0x0A))
    -- an entry in a data-plane log (R465): written whole by M18 with tag 0, else counted as dropped
    let log := fun (s : State) (l time code flags : Nat) (tail : List Byte) =>
      match fuel with
      | 0 => (s.setLogSt l { s.logSt l with lost := true }).count (0x1420 + l) 4
      | n + 1 =>
        let st := s.logSt l
        let e := logEntry time code (flags ||| (b2n st.lost <<< 1)) tail
        let at_ := s.getN 0x1430 0 + (l - 1) * 0x1000 + 16 * st.pos
        let (s, r) := xbRun n s { m := 18, tag := 0, addr := at_, len := 16, wr := true, fetch := false, data := e }
        if r.code = 0 then s.setLogSt l (s.logSt l).push
        else (s.setLogSt l { s.logSt l with lost := true }).count (0x1420 + l) 4
    -- a memory log entry (R469) with its event (bit 21 unless the kind has its own)
    let memLog := fun (s : State) (kind m attr : Nat) (tail : List Byte) =>
      let s := log s 3 s.tbc kind 0 ([BitVec.ofNat 8 m, BitVec.ofNat 8 attr] ++ tail)
      if kind = 4 ∨ kind = 5 ∨ kind = 6 ∨ kind = 7 then s else s.event 21
    -- kinds 1 and 8: at most one entry per master per millisecond (R372, R469)
    let limited := fun (s : State) (kind : Nat) (attr a : Nat) =>
      let key := kind * 64 + x.m
      let last := tabGet 0 s.ev.lastLog key
      if last ≠ 0 ∧ s.tbc + 1 < last + Config.ticksPerMs then s
      else
        let s := { s with ev := { s.ev with lastLog := tabSet 0 s.ev.lastLog key (s.tbc + 1) } }
        memLog s kind x.m ((b2n x.wr <<< 7) ||| attr) (toLE 4 (a >>> 4))
    let fail := fun (s : State) (code cause : Nat) (data : List Byte) =>
      (s.xbError x cause, ({ code := code, cause := cause, data := data } : XResp))
    let u := s.dramU
    match remapAddr s.remap x.addr with
    | none => fail s 3 1 []
    | some a =>
      let p := place u a
      match s.targetOf p with
      | none => fail s 3 1 []
      | some t =>
        if decide (place u (a + x.len - 1) = .unmapped) || (t == 12 && decide (1 < (beatsOf a x.len).length)) then fail s 3 1 []
        else if (xbSlices x.m t).isNone then fail s 3 2 []
        else
          let gs := s.gates x.m
          -- an alias address is checked as its SRAM address (R366)
          let ga := cellAddr p
          match gateRefusal gs x ga with
          | some attr =>
            let s := (s.count (0x2910 + x.m) 0x1A).setN (0x2910 + x.m) 0x1C
              ((x.tag <<< 57) ||| (b2n x.wr <<< 56) ||| (b2n x.isFetch <<< 55) ||| (ga % 2 ^ 36))
            let s := limited s 1 attr ga
            fail s 2 3 (if x.wr then [] else zeros x.len)
          | none =>
            let attr := gateTag gs x ga
            if t = 13 ∧ x.wr then fail s 2 3 []
            else if (match p with
                     | .sram o _ => s.bankRefuses (o >>> 17)
                     | _ => false) then
              let s := s.count 0x2901 8
              let s := limited s 8 attr ga
              fail s 2 4 (if x.wr then [] else zeros x.len)
            else
              let s := match p with
                | .sram o _ => s.bankStall (o >>> 17)
                | _ => s
              let lat := s.latency x t + x.late
              let s := s.setN (0x2A10 + x.m) 9 (max lat (s.getN (0x2A10 + x.m) 9))
              let s := match p with
                | .dram o => s.addN (0x2A40 + s.dramChan o) (if x.wr then 9 else 8) x.len
                | _ => s
              let s := if t = 12 ∨ (8 ≤ t ∧ t ≤ 11) then s.drawn else s
              let (s, data, bad) :=
                if x.wr then
                  let (s, bad) := s.writeBeats u (x.m == 18) (beatsOf a x.len) (padTo x.len x.data)
                  (s, [], bad)
                else s.readBeats u (beatsOf a x.len)
              if bad.isEmpty then (s, { code := 0, cause := 0, data := data })
              else
                -- kinds 4 and 5: one entry per address per second (R469)
                let kind := if t ≤ 7 then 4 else 5
                let s := bad.foldl (fun s w =>
                  let key := 4096 + w / 32
                  let last := tabGet 0 s.ev.lastLog key
                  if last ≠ 0 ∧ s.tbc + 1 < last + Config.ticksPerSec then s
                  else
                    let s := { s with ev := { s.ev with lastLog := tabSet 0 s.ev.lastLog key (s.tbc + 1) } }
                    memLog s kind x.m ((b2n x.wr <<< 7) ||| attr) (toLE 4 (w >>> 4))) s
                fail s 1 5 data

/-- A transaction of a master at the crossbar (R403). -/
def State.xbar (s : State) (x : XReq) : State × XResp := xbRun 3 s x

/-- A read of memory by a master. -/
def State.xbRead (s : State) (m tag a n : Nat) : State × XResp :=
  s.xbar { m := m, tag := tag, addr := a, len := n, wr := false, fetch := false, data := [] }

/-- A write of memory by a master. -/
def State.xbWrite (s : State) (m tag a : Nat) (data : List Byte) : State × XResp :=
  s.xbar { m := m, tag := tag, addr := a, len := data.length, wr := true, fetch := false, data := data }

/-- An entry in a data-plane log (R464, R465): the state after, and the entry's sequence number if it was written. -/
def State.dpLog (s : State) (l time code flags : Nat) (tail : List Byte) : State × Option Nat :=
  let st := s.logSt l
  let e := logEntry time code (flags ||| (b2n st.lost <<< 1)) tail
  let (s, r) := s.xbWrite 18 0 (s.getN 0x1430 0 + (l - 1) * 0x1000 + 16 * st.pos) e
  if r.code = 0 then (s.setLogSt l (s.logSt l).push, some st.next)
  else ((s.setLogSt l { s.logSt l with lost := true }).count (0x1420 + l) 4, none)

/-- A memory log entry (R469) and its event. -/
def State.memLog (s : State) (kind m b11 : Nat) (tail : List Byte) : State :=
  let s := (s.dpLog 3 s.tbc kind 0 ([BitVec.ofNat 8 m, BitVec.ofNat 8 b11] ++ tail)).1
  if kind = 4 ∨ kind = 5 ∨ kind = 6 ∨ kind = 7 then s else s.event 21

/-- A log emptied (R464): nothing held; sequence numbers and totals go on. -/
def State.emptyLog (s : State) (l : Nat) : State := s.setLogSt l { s.logSt l with held := 0 }

/-- The held entries of a log, oldest first (R464). -/
def State.logEntries (s : State) (l : Nat) : List (List Byte) :=
  let st := s.logSt l
  if l = 0 then lastN st.held s.ev.vlog
  else (List.range st.held).map (fun i =>
    memRead s.mem (s.getN 0x1430 0 + (l - 1) * 0x1000 + 16 * ((st.pos + 256 - st.held + i) % 256)) 16)

/-- The sequence number of the oldest entry held, or of the next entry while none is held (R464). -/
def State.logOldest (s : State) (l : Nat) : Nat :=
  let st := s.logSt l
  (st.next + 65535 - st.held) % 65535

end Sys2Proof.Machine
end

