-- ==== Sys2Proof/Machine/Pixels.lean ====
section
/-! DEFINITION. Pixel arithmetic of the inputs: colour conversion to internal linear (R218, R219), deinterlacing (R221)
and whole-row transfers through the crossbar (R223, R393). Powers are taken exactly, by integer roots. -/
namespace Sys2Proof.Machine

/-- The greatest `r + s` with `s < 2 ^ k`, whose `e`-th power times `q` does not exceed `n`. -/
def rootFrom (e q n : Nat) : Nat → Nat → Nat
  | 0, r => r
  | k + 1, r => if (r + 2 ^ k) ^ e * q ≤ n then rootFrom e q n k (r + 2 ^ k) else rootFrom e q n k r

/-- `⌊scale · (p / q)^(num / den)⌋` for a result below `2 ^ width`. -/
def ratPow (scale num den width p q : Nat) : Nat :=
  if q = 0 then 0 else rootFrom den (q ^ num) (scale ^ den * p ^ num) width 0

/-- `scale · (p / q)^(num / den)` rounded to nearest. -/
def ratPowRound (scale num den width p q : Nat) : Nat := (ratPow (2 * scale) num den (width + 1) p q + 1) / 2

/-- Clip to [0, 0xFFFF]. -/
def clip16 (i : Int) : Nat := (clampInt 0 0xFFFF i).toNat

/-- The 4-tap interpolation of R218 and R221 at sixteen times its value: −a + 9b + 9c − d. -/
def tap4 (a b c d : Int) : Int := -a + 9 * b + 9 * c - d

/-- Element `i` of a row, its ends repeated beyond it. -/
def clampAt (l : List Nat) (i : Int) : Nat := l.getD (clampInt 0 (Int.ofNat (l.length - 1)) i).toNat 0

/-- Chroma upsampled to `w` samples, each at sixteen times its code (R218, step 2). -/
def upsample16 (half : Bool) (w : Nat) (l : List Nat) : List Int :=
  (List.range w).map (fun x =>
    if !half then 16 * Int.ofNat (l.getD x 0)
    else
      let i := Int.ofNat (x / 2)
      let c := fun (j : Int) => Int.ofNat (clampAt l (i + j))
      if x % 2 = 0 then 16 * c 0 else tap4 (c (-1)) (c 0) (c 1) (c 2))

/-- `V^2.4` in units of 2^-40 for `V = p / q` clipped to [0, 1] (R218, steps 3 and 4). -/
def linear40 (p : Int) (q : Nat) : Nat :=
  if p ≤ 0 then 0 else if Int.ofNat q ≤ p then 2 ^ 40 else ratPow (2 ^ 40) 12 5 41 p.toNat q

/-- Coefficients of the YCbCr matrices in millionths: R from Cr, G from Cb and Cr (subtracted), B from Cb (R218). -/
def yccCoef (mat : Nat) : Nat × Nat × Nat × Nat :=
  if mat = 0 then (1402000, 344136, 714136, 1772000)
  else if mat = 2 then (1474600, 164553, 571353, 1881400)
  else (1574800, 187324, 468124, 1855600)

/-- Rounding of a 2^-40 value to U1.15 in [0, 1.99997], with the error R218 allows. -/
def toU115 (v : Int) (err : Int) : Nat := clip16 ((v + 2 ^ 24) / 2 ^ 25 + clampInt (-2) 2 err)

/-- One sample triple to internal linear (R218). Chroma comes at sixteen times its code. Levels are taken in 256ths of a code, so
that 2^(n−8) is a whole number for every n. -/
def convPixel (cv : Conv) (bits : Nat) (seed : Nat) (y : Nat) (c1 c2 : Int) : Pix :=
  let k := 2 ^ bits
  let ofs := if cv.full then (0 : Int) else Int.ofNat (16 * k)
  let yden := if cv.full then 256 * (2 ^ bits - 1) else 219 * k
  let cden := 16 * (if cv.full then 256 * (2 ^ bits - 1) else 224 * k)
  let ynum := 256 * Int.ofNat y - ofs
  let q := yden * cden * 1000000
  let scaled := fun (a : Int) => a * Int.ofNat cden * 1000000
  let (rn, gn, bn) :=
    if cv.rgb then
      -- each component normalised as Y, at sixteen times its code for components 1 and 2
      let f := fun (c16 : Int) => (256 * c16 - 16 * ofs) * Int.ofNat (cden / 16) * 1000000
      (scaled ynum, f c1, f c2)
    else
      let (a, b, c, d) := yccCoef cv.mat
      let cb := 256 * (c1 - 16 * 2 ^ (bits - 1)) * Int.ofNat yden
      let cr := 256 * (c2 - 16 * 2 ^ (bits - 1)) * Int.ofNat yden
      (scaled ynum + Int.ofNat a * cr, scaled ynum - Int.ofNat b * cb - Int.ofNat c * cr, scaled ynum + Int.ofNat d * cb)
  let r := Int.ofNat (linear40 rn q); let g := Int.ofNat (linear40 gn q); let b := Int.ofNat (linear40 bn q)
  let (r, g, b) :=
    if cv.mat = 2 then
      ((16605 * r - 5876 * g - 728 * b) / 10000, (-1246 * r + 11329 * g - 83 * b) / 10000,
       (-182 * r - 1006 * g + 11187 * b) / 10000)
    else (r, g, b)
  let luma := if cv.rgb then (2126 * rn + 7152 * gn + 722 * bn) / 10000 else scaled ynum
  { r := toU115 r (Config.cscError seed 0), g := toU115 g (Config.cscError seed 1), b := toU115 b (Config.cscError seed 2),
    y := (clampInt 0 65536 (luma * 65536 / Int.ofNat (max 1 q))).toNat }

/-- A field or frame of samples to rows of pixels (R218). -/
def convRows (cv : Conv) (seed : Nat) (r : Raw) : List (List Pix) :=
  (List.range r.c0.length).map (fun i =>
    let y := r.c0.getD i []
    let c1 := upsample16 r.half y.length (r.c1.getD i [])
    let c2 := upsample16 r.half y.length (r.c2.getD i [])
    (List.range y.length).map (fun x => convPixel cv r.bits (seed + 8192 * i + x) (y.getD x 0) (c1.getD x 0) (c2.getD x 0)))

/-! ## Deinterlacing (R221) -/

def noPix : Pix := { r := 0, g := 0, b := 0, y := 0 }

/-- Pixel `x` of row `i` of a field, rows repeated beyond its ends. -/
def fieldAt (f : List (List Pix)) (i : Int) (x : Nat) : Pix :=
  (f.getD (clampInt 0 (Int.ofNat (f.length - 1)) i).toNat []).getD x noPix

/-- The interpolated pixel of frame row `y` in a field of parity `par` (0 field 1, 1 field 2). -/
def interpPix (f : List (List Pix)) (par y x : Nat) : Pix :=
  let i := (Int.ofNat y - 1 - Int.ofNat par) / 2
  let p := fun (j : Int) => fieldAt f (i + j) x
  let m := fun (g : Pix → Nat) =>
    clip16 ((tap4 (Int.ofNat (g (p (-1)))) (Int.ofNat (g (p 0))) (Int.ofNat (g (p 1))) (Int.ofNat (g (p 2)))) / 16)
  { r := m Pix.r, g := m Pix.g, b := m Pix.b, y := m Pix.y }

/-- Bob: the field's own rows, and interpolated rows between. -/
def bob (f : List (List Pix)) (par : Nat) : List (List Pix) :=
  (List.range (2 * f.length)).map (fun y =>
    if y % 2 = par then f.getD (y / 2) []
    else (List.range (f.headD []).length).map (interpPix f par y))

/-- Weave of field 1 and field 2. -/
def weave (f1 f2 : List (List Pix)) : List (List Pix) :=
  (List.range (f1.length + f2.length)).map (fun y => (if y % 2 = 0 then f1 else f2).getD (y / 2) [])

/-- The largest luma difference between two same-parity fields around frame position (y, x). -/
def motion (f g : List (List Pix)) (par y x : Nat) : Nat :=
  let i := (Int.ofNat y - 1 - Int.ofNat par) / 2
  ([0, 1].flatMap (fun (dy : Int) => ([0, 1, 2] : List Nat).map (fun dx =>
      let xx := min (x + dx - 1) ((f.headD []).length - 1)
      (Int.ofNat (fieldAt f (i + dy) xx).y - Int.ofNat (fieldAt g (i + dy) xx).y).natAbs))).foldl max 0

/-- Motion-adaptive: a missing sample comes from the opposite field where nothing moves, else it is interpolated. -/
def motionAdaptive (f opp prev : List (List Pix)) (par : Nat) : List (List Pix) :=
  (List.range (2 * f.length)).map (fun y =>
    if y % 2 = par then f.getD (y / 2) []
    else (List.range (f.headD []).length).map (fun x =>
      if motion f prev par y x ≤ 1024 then (opp.getD (y / 2) []).getD x noPix else interpPix f par y x))

/-! ## Rows in memory -/

/-- The bytes of a ring row (R223): little-endian U16 R, G, B and 0x0000. -/
def rowBytes (l : List Pix) : List Byte := l.flatMap (fun p => toLE 2 p.r ++ toLE 2 p.g ++ toLE 2 p.b ++ toLE 2 0)

/-- Write bytes as transactions that stay within 512 bytes and within a 512-byte line (R393); the first refusal stops it. -/
def State.xbWriteAll (m tag : Nat) : Nat → State → Nat → List Byte → State × XResp
  | 0, s, _, _ => (s, {})
  | fuel + 1, s, a, l =>
    if l.isEmpty then (s, {})
    else
      let n := min l.length (512 - a % 512)
      let (s, r) := s.xbWrite m tag a (l.take n)
      if r.code = 0 then State.xbWriteAll m tag fuel s (a + n) (l.drop n) else (s, r)

/-- Read bytes likewise; the response is the first that is not OKAY. -/
def State.xbReadAll (m tag : Nat) : Nat → State → Nat → Nat → State × XResp
  | 0, s, _, _ => (s, {})
  | fuel + 1, s, a, n =>
    if n = 0 then (s, {})
    else
      let k := min n (512 - a % 512)
      let (s, r) := s.xbRead m tag a k
      if r.code = 0 then
        let (s, r2) := State.xbReadAll m tag fuel s (a + k) (n - k)
        (s, { r2 with data := r.data ++ r2.data })
      else (s, r)

def State.writeMem (s : State) (m tag a : Nat) (l : List Byte) : State × XResp := State.xbWriteAll m tag (l.length / 512 + 2) s a l
def State.readMem (s : State) (m tag a n : Nat) : State × XResp := State.xbReadAll m tag (n / 512 + 2) s a n

end Sys2Proof.Machine
end

