-- ==== Sys2Proof/Machine/Refs.lean ====
section
/-! DEFINITION. References, holdover and the house timebase (chapter 4): candidate qualification, the selector, the
loop's frequency and bounds, the grid anchor. -/
namespace Sys2Proof.Machine

/-! ## Grid arithmetic (R133, R135, R194) -/

/-- The first TBC value at or after `e` that is congruent to `a + phi` modulo `p` (R194). -/
def gridAtOrAfter (e a p : Nat) (phi : Int) : Nat :=
  let off := ((Int.ofNat a + phi - Int.ofNat e) % (Int.ofNat (max 1 p))).toNat
  e + off

/-- GRID_ANCHOR. -/
def State.anchor (s : State) : Nat := s.getN 0x2000 2

/-- Fix the grid anchor, once per data-plane start (R135). -/
def State.setAnchor (s : State) (t : Nat) : State :=
  if s.refs.anchored then s
  else { (s.setN 0x2000 2 t) with refs := { s.refs with anchored := true, awaitPulse := false } }

/-- The selected reference's first pulse after lock fixes the anchor (R135). -/
def State.anchorPulse (s : State) : State :=
  let s := s.setAnchor s.tbc
  { s with refs := { s.refs with pulsed := true } }

/-- The first output of a manager is enabled: without a pulse since lock, A is the TBC of the first lock, or of this moment (R135). -/
def State.anchorNow (s : State) (t : Nat) : State :=
  if s.mgr then s.setAnchor (if s.refs.awaitPulse then s.refs.lockAt else t) else s

/-! ## Commissioning values in use (R129) -/

/-- Whether an object is a commissioning object (R129). -/
def isCommissioning (idx sub : Nat) : Bool :=
  (idx == 0x2002 && decide (1 ≤ sub) && decide (sub ≤ 6)) ||
  (inRange idx 0x2008 8 && decide (1 ≤ sub) && decide (sub ≤ 3))

/-- The commissioning values that differ from their defaults. -/
def State.commissioning (s : State) : List (Nat × Val) :=
  s.objs.filter (fun p => isCommissioning (p.1 / 256) (p.1 % 256))

/-- The value in use of a commissioning object. -/
def State.inUse (s : State) (idx sub : Nat) : Nat :=
  (tabGet (dfltVal s.mgr idx sub) s.refs.use (objKey idx sub)).nat

/-- SEL_STATUS.CFG_PENDING (R129). -/
def State.cfgPending (s : State) : Bool := !(s.commissioning == s.refs.use)

/-- Highest bandwidth code of an input (Reference inputs). -/
def refMaxBw (k : Nat) : Nat := if k ≤ 1 then 11 else if k = 2 then 13 else if k = 3 then 3 else if k = 4 then 12 else 11

/-- Whether a reference carries frame timing (Reference inputs). -/
def refFrameTiming (k : Nat) : Bool := !(k == 2 || k == 4)

/-- Eight loop time constants in ms, rounded up, by bandwidth code (Loop bandwidth codes). -/
def lock8 (c : Nat) : Nat :=
  [1272000, 424000, 127200, 42400, 12720, 4240, 1272, 424, 128, 43, 13, 5, 2, 1].getD c 1

/-- The effective bandwidth code (R127). -/
def effBw (cfg xoGrade : Nat) (sel : Option Nat) : Nat :=
  let lim := (sel.map refMaxBw).getD 13
  let a := min cfg lim
  let b := if xoGrade = 0 then max a 2 else a
  min b lim

/-! ## Candidates (R113–R115) -/

def candIdx (k : Nat) : Nat := 0x2008 + k
def State.cand (s : State) (k : Nat) : Cand := tabGet {} s.refs.cands k
def State.setCand (s : State) (k : Nat) (c : Cand) : State := { s with refs := { s.refs with cands := tabSet {} s.refs.cands k c } }
def State.candState (s : State) (k : Nat) : Nat := s.getN (candIdx k) 4

/-- Whether the input that REF5–REF7 names is locked to a supported format (R112). -/
def State.inputFmt (s : State) (n : Nat) : Option Nat :=
  if s.getBit (0x2100 + n) 2 1 && !s.getBit (0x2100 + n) 2 2 then some (s.getN (0x2100 + n) 3) else none

/-- Whether a format passes a candidate's check (R112, R113): REF2–REF4 have none. -/
def State.fmtPasses (s : State) (k fmt : Nat) : Bool :=
  let want := s.inUse (candIdx k) 2
  if k ≤ 1 then refFmt fmt && (want == 0 || want == fmt)
  else if k ≤ 4 then true
  else match s.inputFmt (s.inUse (candIdx k) 3) with
    | none => false
    | some f => want == 0 || want == f

/-- Whether REF5–REF7 candidate `k` takes its timing from input `n` (CAND_SOURCE). -/
def State.candOfInput (s : State) (k n : Nat) : Bool :=
  decide (5 ≤ k) && s.inUse (candIdx k) 1 != 0 && s.inUse (candIdx k) 3 == n

/-- Peak-to-peak phase after the least-squares line through the one-second phases is removed, in ns (R115). -/
def wander (ys : List Int) : Nat :=
  let n := ys.length
  if n < 3 then 0 else
  let xs := (List.range n).map Int.ofNat
  let sx := xs.foldl (· + ·) 0
  let sy := ys.foldl (· + ·) 0
  let sxy := (xs.zip ys).foldl (fun a p => a + p.1 * p.2) 0
  let sxx := xs.foldl (fun a x => a + x * x) 0
  let den := Int.ofNat n * sxx - sx * sx
  let num := Int.ofNat n * sxy - sx * sy
  let res := (xs.zip ys).map (fun p => p.2 * den - num * p.1)
  let hi := res.foldl max (res.headD 0)
  let lo := res.foldl min (res.headD 0)
  roundDiv (hi - lo).toNat (max 1 den.toNat)

/-- Disqualify candidate `k` into state `st`: its time restarts, a qualified or selected one counts a loss (R113, R114). -/
def State.disqualify (s : State) (k st : Nat) : State :=
  let was := s.candState k
  let s := (s.setN (candIdx k) 4 st).setN (candIdx k) 7 0
  if was = 3 ∨ was = 4 then s.count (candIdx k) 8 else s

/-- CANDIDATE_MEASURE (R113, R115): the 1 s gate of candidate `k` ends. QUALIFIED_S counts from the first passing gate, as the
worked case of R488 does (DEDUCED, log entry 111). A gate that finds no signal measures no offset, and CAND_OFFSET_PPB keeps the last one
measured (DESIGN CHOICE, log entry 130). -/
def execCandidateMeasure (k : Fin 8) (m : CandMeas) (at_ : Nat) (s : State) : Host.Outcome State Fault Refusal :=
  if !s.power.run then .next s else
  let s := s.atTime at_
  let c := candIdx k
  if s.inUse c 1 = 0 then .next (s.setN c 4 0) else
  let s := if m.present then s.setN c 5 (ofInt 32 m.offset) else s
  let win := Int.ofNat (1000 * s.inUse 0x2002 6)
  let st := if !m.present then 1 else if !s.fmtPasses k m.fmt.toNat then 6
            else if m.offset < -win ∨ win < m.offset then 5 else 2
  if st ≠ 2 then .next ((s.disqualify k st).setCand k {})
  else
    let was := s.candState k
    let fresh := was ≤ 1 || was == 5 || was == 6
    let ph := if fresh then [m.phaseNs] else lastN 100 ((s.cand k).phases ++ [m.phaseNs])
    let s := s.setCand k { s.cand k with phases := ph }
    let q := if fresh then 0 else satAdd maxU32 (s.getN c 7) 1
    let s := (s.setN c 7 q).setN c 6 (wander ph)
    .next (if was = 4 then s else s.setN c 4 (if 10 ≤ q then 3 else 2))

/-- REFERENCE_LOSS (R114): loss of candidate `k` is detected. REF5–REF7 whose input still has signal report wrong format. -/
def execReferenceLoss (k : Fin 8) (at_ : Nat) (s : State) : Host.Outcome State Fault Refusal :=
  if !s.power.run ∨ s.inUse (candIdx k) 1 = 0 then .next s else
  let s := s.atTime at_
  let sig := decide (5 ≤ k.val) && s.getBit (0x2100 + s.inUse (candIdx k) 3) 2 0
  .next ((s.disqualify k (if sig then 6 else 1)).setCand k {})

/-- The input that REF5–REF7 take as their source reports loss of lock, or a format that fails their check: they are
disqualified at once (R114). -/
def State.refInputCheck (s : State) (n : Nat) : State :=
  [5, 6, 7].foldl (fun s k =>
    if s.candOfInput k n && [2, 3, 4].contains (s.candState k) && !s.fmtPasses k 0 then
      (s.disqualify k (if s.getBit (0x2100 + n) 2 0 then 6 else 1)).setCand k {}
    else s) s

/-! ## The selector (R116–R127) -/

/-- The candidate the loop follows: SEL_SOURCE while acquiring or locked. -/
def State.selected (s : State) : Option Nat :=
  let st := s.getN 0x2001 1
  if st = 1 ∨ st = 2 then some (s.getN 0x2001 2) else none

/-- Whether candidate `j` is preferred to `k` (R117); on a worker REF4 is preferred to every other (R118). -/
def State.better (s : State) (j k : Nat) : Bool :=
  if !s.mgr && (j == 4 || k == 4) then j == 4 else
  let pj := s.inUse (candIdx j) 1; let pk := s.inUse (candIdx k) 1
  if pj ≠ pk then decide (pj < pk)
  else
    let wj := s.getN (candIdx j) 6; let wk := s.getN (candIdx k) 6
    if wj ≠ wk then decide (wj < wk) else decide (j < k)

/-- The best of the candidates that satisfy `p` (R117). -/
def State.bestCand (s : State) (p : Nat → Bool) : Option Nat :=
  ((List.range 8).filter p).foldl (fun a k =>
    match a with
    | none => some k
    | some j => if s.better k j then some k else some j) none

/-- Whether holdover history is valid: locked for 60 s in total (R119). -/
def State.histValid (s : State) : Bool := decide (60000 ≤ s.refs.lockedMs)

/-- The holdover frequency (R119): the mean over the locked seconds that end 10 s or more before now, at most
HOLDOVER_AVG_S of them. -/
def State.holdFreq (s : State) : Int :=
  let old := (s.refs.hist.filter (fun p => decide (p.1 + 10 * Config.ticksPerSec ≤ s.tbc))).take (s.inUse 0x2002 2)
  if old.isEmpty then s.refs.off
  else roundDivI (old.foldl (fun a p => a + p.2) 0) old.length

/-- A change of SEL_STATE (and SEL_SOURCE) at this moment. -/
def State.selMove (s : State) (st src : Nat) : State :=
  if st = s.getN 0x2001 1 ∧ src = s.getN 0x2001 2 then s
  else ((s.setN 0x2001 1 st).setN 0x2001 2 src).setN 0x2001 9 s.tbc

/-- The build-out held, in ps. -/
def State.buildoutPs (s : State) : Int := 1000 * s.refs.buildout + s.refs.slip

/-- SEL_BUILDOUT_NS of a build-out in ps; what no I32 holds is not stated (log entry 115). -/
def buildoutShown (b : Int) : Nat :=
  let n := roundDivI b 1000
  if -2147483648 ≤ n ∧ n ≤ 2147483647 then ofInt 32 n else (Config.buildoutOver b).toNat

/-- SEL_STATUS from the loop's state. -/
def State.selStatus (s : State) (limited : Bool) : State :=
  let bw := s.getN 0x2001 8
  let v := (b2n (s.getN 0x2001 1 == 2)) ||| (b2n limited <<< 1) ||| (b2n (!(s.buildoutPs == 0)) <<< 2) |||
    (b2n s.refs.realign <<< 3) ||| (b2n s.histValid <<< 4) ||| (b2n (!(bw == s.inUse 0x2002 1)) <<< 5)
  (s.setN 0x2001 3 v).setN 0x2001 5 (buildoutShown s.buildoutPs)

/-- Select candidate `k`: acquiring, with the measured phase difference kept as build-out (R116, R123–R125). Under BUILDOUT_MODE
1 a reference with frame timing is realigned, from whatever difference its pulses show against the grid. -/
def State.selectCand (s : State) (k : Nat) (buildout : Int) : State :=
  let old := s.getN 0x2001 2
  let s := if old ≤ 7 ∧ s.candState old = 4 then s.setN (candIdx old) 4 3 else s
  let s := (s.setN (candIdx k) 4 4).count 0x2001 6
  let s := s.selMove 1 k
  let s := if old ≠ k then s.event 4 else s
  let s := s.setN 0x2001 8 (effBw (s.inUse 0x2002 1) (s.inUse 0x2002 5) (some k))
  let realign := s.inUse 0x2002 4 == 1 && refFrameTiming k
  { s with refs := { s.refs with okMs := 0, buildout := buildout, slip := 0, realign := realign } }

/-- How far above or below the reference the loop runs to take away a lag of `l` ps, in ppb, while it runs `v` ppb off it: at most
2 ppm (R125, R157), and none once what remains goes while the loop slews back at 5 ppb per ms, as in the worked case of
house sync lost and restored (DEDUCED, log entry 131). -/
def removal (l v : Int) : Int :=
  if l.natAbs ≤ 1157 + v.natAbs * (v.natAbs + 5) / 10 then 0 else if 0 < l then 2000 else -2000

/-- The frequency the loop aims at, in ppb, and whether it is held at the ±20 ppm bound (R121, R122, R125, R157). -/
def State.loopAim (s : State) : Int × Bool :=
  match s.selected with
  | none => (if s.getN 0x2001 1 = 3 then s.refs.hold else 0, false)
  | some k =>
    let o := toInt 32 (s.getN (candIdx k) 5)
    let r := match (s.cand k).lag with
      | some l => if s.refs.realign ∨ k = 4 then removal l (s.refs.off - o) else 0
      | none => 0
    (clampInt (-20000) 20000 (clampInt (-20000) 20000 o + r), decide (o < -20000 ∨ 20000 < o))

/-- A millisecond in which the loop runs at another frequency than the reference it follows: a difference of 1 ppb is 1 ps of phase,
which goes into the build-out and the lag (R121, R122). -/
def State.loopDrift (s : State) : State :=
  match s.selected with
  | none => s
  | some k =>
    let d := toInt 32 (s.getN (candIdx k) 5) - s.refs.off
    let s := { s with refs := { s.refs with slip := s.refs.slip + d } }
    s.setCand k { s.cand k with lag := (s.cand k).lag.map (· + d) }

/-- Move the loop by at most 5 ppb in this millisecond, within ±20 ppm (R121). -/
def State.loopStep (s : State) : State :=
  let aim := s.loopAim.1
  let off := s.refs.off + clampInt (-5) 5 (aim - s.refs.off)
  let s := { s with refs := { s.refs with off := clampInt (-20000) 20000 off, last10 := (s.refs.off :: s.refs.last10).take 10 } }
  (s.setN 0x2001 4 (ofInt 32 s.refs.off)).loopDrift

/-- Whether the pulses of the selected reference stand more than ±20 ns from the grid, as far as they have been seen. -/
def State.farFromGrid (s : State) : Bool :=
  match s.selected.bind (fun k => (s.cand k).lag) with
  | some l => decide (20000 < l.natAbs)
  | none => false

/-- The end of a realignment (R125): no build-out is left. -/
def State.realigned (s : State) : State := { s with refs := { s.refs with realign := false, buildout := 0, slip := 0 } }

/-- A realignment has ended once the pulses coincide with the grid within ±20 ns and the loop is back at the reference's
frequency (R125). -/
def State.realignEnd (s : State) : State :=
  match s.selected with
  | none => s
  | some k =>
    let near := decide ((s.refs.off - toInt 32 (s.getN (candIdx k) 5)).natAbs ≤ 5)
    if s.refs.realign && (s.cand k).lag.isSome && !s.farFromGrid && near then s.realigned else s

/-- What a pulse of candidate `k` at this instant says of the grid of period `p` (R125): the difference in whichever direction is
shorter. TBC shows it to a tick, so that a finer value already known within a tick stays (log entry
131). -/
def State.pulseLag (s : State) (k p : Nat) : State :=
  if s.mgr ∧ !s.refs.anchored then s else
  let d := (Int.ofNat s.tbc - Int.ofNat s.anchor) % Int.ofNat (max 1 p)
  let d := if Int.ofNat p < 2 * d then d - Int.ofNat p else d
  let l := - roundDivI (d * 1000000) 27
  let c := s.cand k
  match c.lag with
  | some x => if (x - l).natAbs ≤ 37038 then s else s.setCand k { c with lag := some l }
  | none => s.setCand k { c with lag := some l }

/-- Account a millisecond of locked time in the history (R119). -/
def State.histStep (s : State) : State :=
  let r := s.refs
  let sum := r.secSum + r.off
  if r.secMs = 999 then
    let hist := ((s.tbc, roundDivI sum 1000) :: r.hist).take 86500
    { s with refs := { r with secSum := 0, secMs := 0, lockedMs := r.lockedMs + 1, hist := hist } }
  else { s with refs := { r with secSum := sum, secMs := r.secMs + 1, lockedMs := r.lockedMs + 1 } }

/-- The transition of R116 that applies, if any. With no reference selected any more no build-out is held (log entry 115). -/
def State.selTransition (s : State) (phaseNs buildoutNs : Int) : State :=
  let st := s.getN 0x2001 1
  let qual := fun k => s.candState k == 3
  match s.selected with
  | some k =>
    if s.candState k ≠ 4 then
      -- the selected candidate is disqualified: the loop's value of 10 ms before detection (R114)
      let s := { s with refs := { s.refs with off := (s.refs.last10.getLast?).getD s.refs.off, realign := false } }
      match s.bestCand qual with
      | some j => s.selectCand j buildoutNs
      | none =>
        if s.histValid then
          let s := { s with refs := { s.refs with hold := s.holdFreq, holdMs := 0, buildout := 0, slip := 0 } }
          ((s.selMove 3 k).setN 0x2001 7 0).event 5
        else
          let s := { s with refs := { s.refs with lockedMs := 0, hist := [], buildout := 0, slip := 0 } }
          (s.selMove 0 k).event 6
    else
      let up := s.bestCand (fun j => qual j && decide (70 ≤ s.getN (candIdx j) 7) &&
        decide (s.inUse (candIdx j) 1 < s.inUse (candIdx k) 1))
      -- a worker returns to REF4 whatever REVERTIVE holds (R118, log entry 111)
      match up.filter (fun j => s.inUse 0x2002 3 == 1 || (!s.mgr && j == 4)) with
      | some j => s.selectCand j buildoutNs
      | none =>
        if st = 1 then
          let ok := if -20 ≤ phaseNs ∧ phaseNs ≤ 20 then s.refs.okMs + 1 else 0
          let s := { s with refs := { s.refs with okMs := ok } }
          if max 1000 (lock8 (s.getN 0x2001 8)) ≤ ok then
            let s := s.selMove 2 k
            let s := { s with power := { s.power with firstLock := true } }
            -- first entry into locked fixes the anchor, or waits for the reference's pulse (R135)
            if s.refs.anchored || !s.mgr then s
            else if refFrameTiming k then { s with refs := { s.refs with awaitPulse := true, lockAt := s.tbc } }
            else s.setAnchor s.tbc
          else s
        else s
  | none =>
    match s.bestCand qual with
    | some j => s.selectCand j buildoutNs
    | none => s

/-- SELECTOR_EVALUATE (R116): one evaluation. `phaseNs` is the measured phase error, `buildoutNs` the phase difference to
a newly selected reference. -/
def execSelectorEvaluate (phaseNs buildoutNs : Int) (at_ : Nat) (s : State) : Host.Outcome State Fault Refusal :=
  if !s.power.run then .next s else
  let s := (s.atTime at_).selTransition phaseNs buildoutNs
  let s := s.loopStep.realignEnd
  let s := if s.getN 0x2001 1 = 2 then s.histStep else s
  let s := if s.getN 0x2001 1 = 3 then
      let ms := s.refs.holdMs + 1
      ({ s with refs := { s.refs with holdMs := ms } }).setN 0x2001 7 (min maxU32 (ms / 1000))
    else s
  let lim := s.loopAim.2
  let was := s.getBit 0x2001 3 1
  let s := s.selStatus lim
  .next (if lim && !was then s.event 7 else s)

/-- REALIGNMENT_DONE (R125): the reference's frame pulses coincide with the grid. It does not come while the pulses seen stand
further off. -/
def execRealignmentDone (at_ : Nat) (s : State) : Host.Outcome State Fault Refusal :=
  if !s.power.run ∨ !s.refs.realign then .next s else
  let s := s.atTime at_
  .next (if s.farFromGrid then s else s.realigned.selStatus (s.getBit 0x2001 3 1))

/-- PPS_EDGE (R132, R135): a REF3 edge; `passing` says that it passes R113. -/
def execPpsEdge (passing : Bool) (at_ : Nat) (s : State) : Host.Outcome State Fault Refusal :=
  if !s.power.run ∨ !passing then .next s else
  let s := s.atTime at_
  let s := s.setN 0x2000 3 s.tbc
  let s := if s.refs.awaitPulse ∧ s.selected = some 3 then s.anchorPulse else s
  .next (if s.inUse (candIdx 3) 1 = 0 then s else s.pulseLag 3 27000000)

/-- A frame pulse of REF `k` at this instant, with the format its frame has (R114, R125, R135). -/
def State.framePulse (s : State) (k fmt : Nat) : State :=
  let st := s.candState k
  if (st = 3 ∨ st = 4) ∧ s.fmtPasses k fmt = false then (s.disqualify k 6).setCand k {}
  else
    let s := if s.refs.awaitPulse ∧ s.selected = some k then s.anchorPulse else s
    s.pulseLag k (framePeriod (fmtRate fmt))

/-- The frame start of input `n` is the frame pulse of the references that take it as their source (R112, R214). -/
def State.inputPulse (s : State) (n : Nat) : State :=
  [5, 6, 7].foldl (fun s k => if s.candOfInput k n && s.getBit (0x2100 + n) 2 1 then s.framePulse k (s.getN (0x2100 + n) 3) else s) s

/-- REFERENCE_FRAME_PULSE (R114, R135): a frame pulse of REF `k` with the format its frame has. The pulses of REF5–REF7 are frame
starts of their input (R112): one at another instant than that input's last frame start does not come. -/
def execReferenceFramePulse (k : Fin 8) (fmt : BitVec 32) (at_ : Nat) (s : State) : Host.Outcome State Fault Refusal :=
  if !s.power.run ∨ s.inUse (candIdx k) 1 = 0 then .next s else
  let s := s.atTime at_
  let started := (tabGet ({} : Input) s.inputs (s.inUse (candIdx k) 3)).startAt
  .next (if 5 ≤ k.val ∧ started ≠ s.tbc then s else s.framePulse k fmt.toNat)

/-- The selector at a data-plane start (R129, R131): commissioning values taken into use, free-run, no history. -/
def State.refsStart (s : State) : State :=
  let s := { s with refs := { use := s.commissioning } }
  let s := (List.range 8).foldl (fun s k => s.setN (candIdx k) 4 (if s.inUse (candIdx k) 1 = 0 then 0 else 1)) s
  let s := ((s.setN 0x2001 1 0).setN 0x2001 2 0xFF).setN 0x2001 8 (effBw (s.inUse 0x2002 1) (s.inUse 0x2002 5) none)
  s.selStatus false

end Sys2Proof.Machine
end

