-- ==== Sys2Proof/Machine/Inputs.lean ====
section
/-! DEFINITION. Input ports and frame rings (chapter 7): detection, the writer and its slots, readers and rate conversion,
hold and loss, EDID and AUX. Inputs 0–31 are ports, 0x20 + v the virtual inputs, whose rings follow the same rules. -/
namespace Sys2Proof.Machine

/-! ## An input's objects -/

def State.input (s : State) (n : Nat) : Input := tabGet {} s.inputs n
def State.setInput (s : State) (n : Nat) (x : Input) : State := { s with inputs := tabSet {} s.inputs n x }
def State.output (s : State) (n : Nat) : Output := tabGet {} s.outputs n
def State.setOutput (s : State) (n : Nat) (o : Output) : State := { s with outputs := tabSet {} s.outputs n o }

def State.reader (s : State) (e : Nat) : Reader := tabGet {} s.readers e
def State.setReader (s : State) (e : Nat) (x : Reader) : State := { s with readers := tabSet {} s.readers e x }

/-- An object of an input port (subindex `p`) or of a virtual input (subindex `v`). -/
def State.inObj (s : State) (n p v : Nat) : Nat := if n < 32 then s.getN (0x2100 + n) p else s.getN (0x2140 + n - 32) v
def State.inCount (s : State) (n p v : Nat) : State := if n < 32 then s.count (0x2100 + n) p else s.count (0x2140 + n - 32) v

def State.inDepth (s : State) (n : Nat) : Nat := s.inObj n 4 0x0A
def State.inDeint (s : State) (n : Nat) : Nat := s.inObj n 5 0x0B
def State.inCsc (s : State) (n : Nat) : Nat := s.inObj n 6 0x0C
def State.inBlend (s : State) (n : Nat) : Bool := s.inObj n 7 0x0D == 1
def State.inTag (s : State) (n : Nat) : Nat := s.inObj n 0x0A 0x10
def State.inReserve (s : State) (n : Nat) : Nat := s.inObj n 0x0E 5
def State.inDropped (s : State) (n : Nat) : State := s.inCount n 8 0x0E
def State.inRepeated (s : State) (n : Nat) : State := s.inCount n 9 0x0F

/-- The time of the hold in ms; a virtual input has no IN_HOLD_MS and uses its default (log entry 19). -/
def State.inHoldMs (s : State) (n : Nat) : Nat := if n < 32 then s.getN (0x2100 + n) 0x14 else 500

/-- Status bits of an input port; a virtual input has none of them. -/
def State.inSet (s : State) (n bit : Nat) (b : Bool) : State := if n < 32 then s.setBit (0x2100 + n) 2 bit b else s

/-- The format received: IN_FORMAT or VIN_FORMAT. -/
def State.inFormat (s : State) (n : Nat) : Nat := s.inObj n 3 8

/-- Whether DP receiver k exists: all four lanes in mode 6 (R209). -/
def State.dpExists (s : State) (k : Nat) : Bool := (List.range 4).all (fun i => s.getN (0x2100 + 4 * k + i) 1 == 6)

/-- Whether lane n belongs to a DP group but does not carry its video (R210). -/
def State.dpMember (s : State) (n : Nat) : Bool := decide (n < 32) && n % 4 != 0 && s.dpExists (n / 4)

/-! ## The ring (R223, R224) -/

def roundUp4k (n : Nat) : Nat := ceilDiv n 4096 * 4096

def slotBytesOf (fm : Nat) : Nat := 4096 + roundUp4k (fmtW fm * fmtH fm * 8)

def historyBytes (fm deint : Nat) : Nat := if deint = 2 then roundUp4k (fmtW fm * fmtH fm * 4) else 0

def ringBytes (fm depth deint : Nat) : Nat := depth * slotBytesOf fm + historyBytes fm deint

def State.ringBase (s : State) (n : Nat) : Nat := if n < 32 then s.getN (0x2100 + n) 0x0D else 0xC0000000 + (n - 32) * 0x04000000

def State.slotBytes (s : State) (n : Nat) : Nat := slotBytesOf (s.inReserve n)

/-- The address of slot i. -/
def State.slotAddr (s : State) (n i : Nat) : Nat := s.ringBase n + i * s.slotBytes n

/-- The master that writes the ring: M0–M3 by cluster; M14 or M15 by the tunnel's port for a virtual input (R177). -/
def State.ringMaster (s : State) (n : Nat) : Nat := if n < 32 then n / 8 else if (s.input n).port.any (fun p => decide (2 ≤ p)) then 15 else 14

/-- The slots that readers hold in the present ring of an input (R226). -/
def State.heldSlots (s : State) (n : Nat) : List Nat :=
  s.readers.flatMap (fun p => ([p.2.b, p.2.a].filterMap id).filterMap (fun h => if h.inp = n ∧ h.old = false then some h.slot else none))

/-- Whether `z` bytes at `a` overlap memory that a reader still holds of a ring since rebuilt (R230). -/
def State.oldOver (s : State) (a z : Nat) : Bool :=
  s.readers.any (fun p => ([p.2.b, p.2.a].filterMap id).any (fun h =>
    h.old && decide (h.pix - 4096 < a + z) && decide (a < h.pix + h.bytes)))

/-- The same of a slot. -/
def State.oldHeld (s : State) (n i : Nat) : Bool := s.oldOver (s.slotAddr n i) (s.slotBytes n)

/-- A slot of an input's ring. -/
def Input.slot (x : Input) (i : Nat) : Slot := x.slots.getD i {}
def Input.setSlot (x : Input) (i : Nat) (v : Slot) : Input := { x with slots := x.slots.set i v }

/-- Whether slot `i` was completed after slot `j`. -/
def Input.later (x : Input) (i j : Nat) : Bool :=
  let a := x.slot i; let b := x.slot j
  decide (b.doneAt < a.doneAt) || (a.doneAt == b.doneAt && decide ((a.seq + 2 ^ 32 - b.seq) % 2 ^ 32 < 2 ^ 31))

/-- The newest of the complete frames in slots that satisfy `p` and do not hold the writer token. -/
def Input.newestOf (x : Input) (p : Nat → Bool) : Option Nat :=
  ((List.range x.slots.length).filter (fun i => (x.slot i).full && !(x.writer == some i) && p i)).foldl (fun a i =>
    match a with
    | none => some i
    | some j => if x.later i j then some i else some j) none

/-- The second newest complete frame (R233). -/
def Input.second (x : Input) : Option Nat := x.newestOf (fun i => !(x.newest == some i))

/-- Rebuild a ring: every slot empty, the frame sequence continues; slots held of the old ring stay held (R230). -/
def State.ringRebuild (s : State) (n : Nat) : State :=
  let x := s.input n
  let old := fun (h : Option Held) => h.map (fun h => if h.inp = n then { h with old := true } else h)
  let mark : Nat × Reader → Nat × Reader := fun p => (p.1, { p.2 with b := old p.2.b, a := old p.2.a })
  let s := { s with readers := s.readers.map mark }
  s.setInput n { x with slots := List.replicate (s.inDepth n) {}, writer := none, begun := false, newest := none, fields := [], gaps := [], lastDone := none }

/-- IN_RING_TOKENS (Tokens): the token books. -/
def State.ringTokens (s : State) (n : Nat) : Nat :=
  let x := s.input n
  let d := x.slots.length
  let held := s.heldSlots n
  let mask := fun (p : Nat → Bool) => (List.range d).foldl (fun a i => if p i then a ||| (1 <<< i) else a) 0
  (d <<< 24) ||| ((x.writer.getD 15) <<< 20) ||| ((x.newest.getD 15) <<< 16) ||| (mask (fun i => held.contains i) <<< 12) |||
    (mask (fun i => !held.contains i && !(x.writer == some i)) <<< 8)

/-! ## Loss and hold (R238) -/

/-- The writer gives up its slot: the contents of a frame in progress are no longer complete (R235). -/
def State.abandonFrame (s : State) (n : Nat) : State :=
  let x := s.input n
  match x.writer with
  | none => s
  | some i => s.setInput n { (if x.begun then x.setSlot i {} else x) with writer := none, begun := false }

/-- Loss of signal, UNSUPPORTED or OVERSIZE: the frame is abandoned without counting, the loss counted, the hold begins. -/
def State.inputLoss (s : State) (n : Nat) : State :=
  let s := s.abandonFrame n
  let s := if n < 32 then s.count (0x2100 + n) 0x13 else s
  let x := s.input n
  let hold := decide (0 < s.inHoldMs n) && x.newest.isSome && !x.dead
  (s.setInput n { x with holding := hold, dead := !hold, lossAt := s.tbc, fields := [] }).inSet n 10 hold

/-- The hold ends: readers receive no frame. -/
def State.holdEnd (s : State) (n : Nat) : State :=
  (s.setInput n { s.input n with holding := false, dead := true }).inSet n 10 false

/-- HOLD_EXPIRY (R238): IN_HOLD_MS after a loss. -/
def execHoldExpiry (n : Fin 64) (s : State) : Host.Outcome State Fault Refusal :=
  if !s.power.run ∨ (s.input n).holding = false then .next s
  else .next ((s.atTime ((s.input n).lossAt + s.inHoldMs n * Config.ticksPerMs)).holdEnd n)

/-! ## Detection (R211–R214) -/

/-- Lane rate classes a mode accepts (R208). -/
def modeAccepts (mode rate : Nat) : Bool :=
  if mode = 1 then decide (rate < 4) else if mode = 6 then rate == 4 else mode == rate + 2

/-- Whether the accepted tables hold a format (R208, R210). -/
def fmtAccepted (rate w h code : Nat) (inter psf : Bool) (pixRate : Nat) : Bool :=
  let fhd := w == 1920 && h == 1080
  if rate = 0 then
    (fhd && inter && !psf && decide (3 ≤ code) && decide (code ≤ 5)) ||
    (fhd && (!inter || psf) && decide (1 ≤ code) && decide (code ≤ 5)) ||
    (w == 1280 && h == 720 && !inter && decide (6 ≤ code) && decide (code ≤ 8))
  else if rate = 1 then fhd && !inter && decide (6 ≤ code) && decide (code ≤ 8)
  else if rate = 2 then w == 3840 && h == 2160 && !inter && decide (1 ≤ code) && decide (code ≤ 5)
  else if rate = 3 then w == 3840 && h == 2160 && !inter && decide (6 ≤ code) && decide (code ≤ 8)
  else decide (1 ≤ w) && decide (w ≤ 8191) && decide (1 ≤ h) && decide (h ≤ 4095) && decide (1 ≤ code) && decide (pixRate ≤ 600000000)

/-- The mean of a list, rounded to nearest. -/
def meanOf (l : List Nat) : Nat := if l.isEmpty then 0 else roundDiv (l.foldl (· + ·) 0) l.length

/-- The bits of IN_STATUS that a frame's measurement decides: [3] to [6], [13], [14] (R213, R220). -/
def State.measStatus (s : State) (n : Nat) (m : FrameMeas) : State :=
  let psf := m.inter && m.psf && m.pid.isSome
  let s := ((s.inSet n 3 m.pid.isSome).inSet n 4 (m.pid.isSome && m.mismatch)).inSet n 5 (m.inter && !psf)
  let s := ((s.inSet n 6 psf).inSet n 13 (decide (0 < m.crcLines))).inSet n 14 m.hdr
  if n < 32 then
    let s := s.addN (0x2100 + n) 0x16 m.crcLines
    match m.pid with
    | some v => s.setN (0x2100 + n) 0x0C v.toNat
    | none => s
  else s

/-- Whether the received frame fits the ring's reserve (R237). -/
def State.oversize (s : State) (n w h : Nat) : Bool := decide (fmtW (s.inReserve n) < w) || decide (fmtH (s.inReserve n) < h)

/-! ## The writer's slot (R226, R227) -/

/-- Whether the input is locked to a supported signal that fits its ring. -/
def State.writable (s : State) (n : Nat) : Bool :=
  if n < 32 then s.getBit (0x2100 + n) 2 1 && !s.getBit (0x2100 + n) 2 2 && !s.getBit (0x2100 + n) 2 7
  else s.getBit (0x2140 + n - 32) 7 0 && !s.getBit (0x2140 + n - 32) 7 2 && s.inFormat n != 0

/-- Whether the signal is in fields: interlaced, or PsF (R222). -/
def State.inFields (s : State) (n : Nat) : Bool := fmtInt (s.inFormat n) || (s.input n).psf

/-- The deinterlacing in force: PsF is always woven, a progressive signal ignores IN_DEINT (R222). -/
def State.deintMode (s : State) (n : Nat) : Nat := if fmtInt (s.inFormat n) then s.inDeint n else 0

/-- The conversion for a frame (R219). -/
def convOf (csc : Nat) (main : Colour) (override : Option Colour) (dp : Bool) : Conv :=
  if csc = 1 then { rgb := false, full := false, mat := 0 }
  else if csc = 2 then { rgb := false, full := false, mat := 1 }
  else if csc = 3 then { rgb := false, full := false, mat := 2 }
  else if csc = 4 then { rgb := true, full := true, mat := 1 }
  else if csc = 5 then { rgb := true, full := false, mat := 1 }
  else if dp then
    let c := override.getD main
    { rgb := c.rgb, full := c.full.getD c.rgb, mat := (c.mat.map (·.val)).getD 1 }
  else { rgb := false, full := false, mat := if main.mat = some 2 then 2 else 1 }

/-- The mean completion interval T_i (R233). -/
def Input.period (x : Input) : Nat := meanOf x.gaps

/-- Whether an output's period equals that of a ring within ±300 ppm (R233). -/
def State.samePeriod (s : State) (n out : Nat) : Bool :=
  let to_ := framePeriod (fmtRate (s.getN (0x2200 + out) 2))
  decide ((Int.ofNat (s.input n).period - Int.ofNat to_).natAbs * 1000000 ≤ 300 * to_)

/-- The slot the writer takes: an empty free slot, else the oldest complete one; the newest only if no other is free (R227). -/
def State.pickSlot (s : State) (n : Nat) : Option Nat :=
  let x := s.input n
  let held := s.heldSlots n
  let free := (List.range x.slots.length).filter (fun i => !held.contains i && !s.oldHeld n i)
  match free.find? (fun i => !(x.slot i).full) with
  | some i => some i
  | none =>
    let rest := free.filter (fun i => !(x.newest == some i))
    let pick := if rest.isEmpty then free else rest
    pick.foldl (fun a i => match a with
      | none => some i
      | some j => if (x.slot i).doneAt < (x.slot j).doneAt then some i else some j) none

/-- Between ring frames the writer holds the slot it is to fill next (R226), unless that is the last complete frame, which it takes
at the next frame start only (R227; log entry 122). -/
def State.takeToken (s : State) (n : Nat) : State :=
  let x := s.input n
  if !s.writable n ∨ x.writer.isSome then s
  else match s.pickSlot n with
    | some i => if x.newest = some i then s else s.setInput n { x with writer := some i, begun := false }
    | none => s

/-! ## Tunnels at their source (R177, R180) -/

/-- A rate code's frames per second as a fraction, exact (R178). -/
def frameRate (c : Nat) : Nat × Nat := (Config.ticksPerSec, framePeriod c)

/-- Bits per pixel of VIN_SAMPLING (R178). -/
def samplingBits (k : Nat) : Nat := if k = 0 then 20 else if k = 1 then 30 else 36

/-- Bits per second of the video part, as a fraction of 16 times a period. -/
def videoLoad (sampling fm : Nat) : Nat × Nat :=
  let (n, d) := frameRate (fmtRate fm)
  (fmtW fm * fmtH fm * samplingBits sampling * 17 * n, 16 * d)

/-- Whether a source's own format, at the sampling chosen, exceeds the video part of a reservation (R180). -/
def overReserve (sampling fm reserve : Nat) : Bool :=
  let a := videoLoad sampling fm
  let b := videoLoad sampling reserve
  decide (b.1 * a.2 < a.1 * b.2)

/-- A code of `n` bits as one of `m`: fewer by rounding (R177), more by the place of the levels (R218; log entry 117). -/
def recode (n m v : Nat) : Nat := if m < n then min (2 ^ m - 1) ((v + 2 ^ (n - m - 1)) >>> (n - m)) else v <<< (m - n)

/-- The averages of pairs of a row, halves up; a last sample without a partner stands. -/
def pairMeans : List Nat → List Nat
  | a :: b :: t => (a + b + 1) / 2 :: pairMeans t
  | l => l

/-- Samples as a tunnel of a sampling carries them (R177). -/
def tunnelRaw (sampling : Nat) (rgb : Bool) (seed : Nat) (r : Raw) : Raw :=
  let m := if sampling = 2 then 12 else 10
  let halves := sampling == 0 && !r.half
  let rows := fun (k : Nat) (l : List (List Nat)) =>
    l.mapIdx (fun y row =>
      if halves && rgb then (List.range ((row.length + 1) / 2)).map (fun x => (Config.tunnelSample seed k y x).toNat)
      else (if halves then pairMeans row else row).map (recode r.bits m))
  { bits := m, half := r.half || sampling == 0, c0 := r.c0.map (fun row => row.map (recode r.bits m)), c1 := rows 1 r.c1, c2 := rows 2 r.c2 }

/-- Put an item into every tunnel slot that carries an input, as the slot's settings have it. -/
def State.tunnelOut (s : State) (n : Nat) (item : TunnelSrc → Option TunnelItem) : State :=
  (List.range 4).foldl (fun s p =>
    let x := s.port p
    let puts := (x.srcs.filter (fun q => q.2.inp == n)).filterMap (fun q => (item q.2).map (fun i => (q.1, i)))
    if puts.isEmpty then s else s.setPort p { x with carry := puts.foldl (fun t q => tabPut t q.1 q.2) x.carry }) s

/-- What a tunnel of video gets. -/
def videoItem (i : TunnelItem) (k : TunnelSrc) : Option TunnelItem := if k.kind = 2 then none else some i

/-- A field or frame of an input for a tunnel: a source that exceeds the reservation sends its format and no samples (R180). -/
def State.frameItem (s : State) (n : Nat) (field2 : Bool) (meas : Option FrameMeas) (raw : Raw) (k : TunnelSrc) : Option TunnelItem :=
  let r := if overReserve k.sampling (s.inFormat n) k.reserve then { raw with c0 := [], c1 := [], c2 := [] }
    else tunnelRaw k.sampling (s.input n).conv.rgb s.seed raw
  videoItem (.frameEnd field2 meas r) k

/-- Whether an input port has a signal that a tunnel carries. -/
def State.sourceOn (s : State) (n : Nat) : Bool := s.getBit (0x2100 + n) 2 1 && !s.getBit (0x2100 + n) 2 2

/-- Tunnels follow the signal of their source; `was` is how it stood. -/
def State.tunnelSignal (s : State) (n : Nat) (was : Bool) : State :=
  if s.sourceOn n = was then s else s.tunnelOut n (fun _ => some (if was then .loss else .lock))

/-! ## Detection, continued -/

/-- Detection starts again with the frame just measured (R212). -/
def State.redetect (s : State) (n : Nat) (m : FrameMeas) : State :=
  let s := s.abandonFrame n
  let s := (((s.inSet n 1 false).inSet n 2 false).inSet n 7 false).setN (0x2100 + n) 3 0
  (s.setInput n { s.input n with seen := some (m.w, m.h, m.lines, m.inter), periods := [m.period], code := 0, fields := [] }).refInputCheck n

/-- A complete frame is measured. Two that agree, with the mean of their periods at a rate code, lock the input; a change clears
LOCKED and detection starts again (R212). A signal that matches no rate code is unsupported without a lock (R210; log entry 58). -/
def State.detect (s : State) (n : Nat) (m : FrameMeas) : State :=
  let s := s.measStatus n m
  let x := s.input n
  let psf := m.inter && m.psf && m.pid.isSome
  let ps := (m.period :: x.periods).take 16
  let code := rateCodeOf (meanOf ps)
  if x.seen ≠ some (m.w, m.h, m.lines, m.inter) ∨ (s.getBit (0x2100 + n) 2 1 ∧ code ≠ x.code) then s.redetect n m
  else
    let ok := m.accepted && code != 0 &&
      fmtAccepted x.rate m.w m.h code m.inter psf (m.pixels * m.lines * Config.ticksPerSec / max 1 m.period)
    let tooBig := code != 0 && s.oversize n m.w m.h
    let worse := (!ok && !s.getBit (0x2100 + n) 2 2) || (tooBig && !s.getBit (0x2100 + n) 2 7)
    let s := s.setInput n { x with periods := ps, code := code, psf := psf }
    let s := (((s.inSet n 1 (code != 0)).inSet n 2 (!ok)).inSet n 7 tooBig).setN (0x2100 + n) 3 (if ok then fmtOf m.w m.h code (b2n (m.inter && !psf)) else 0)
    (if worse then s.inputLoss n else s).takeToken n

/-- The lane rate class that a lane's search finds (R208, R211): the first of those its mode accepts that yields valid timing, from
12G downwards. -/
def searchRate (mode : Nat) (found : List (Fin 5)) : Option Nat :=
  [4, 3, 2, 1, 0].find? (fun r => modeAccepts mode r && found.any (fun f => f.val == r))

/-- INPUT_SIGNAL_LOCK (R211, R214): a lane without signal (or the DP receiver's lanes) is tried at each rate of its mode; `found` are
the rate classes at which it yields lock and valid timing. -/
def execInputSignalLock (n : Fin 32) (found : List (Fin 5)) (at_ : Nat) (s : State) : Host.Outcome State Fault Refusal :=
  let mode := s.getN (0x2100 + n) 1
  if !s.power.run ∨ s.getBit (0x2100 + n) 2 0 ∨ s.dpMember n ∨ (mode = 6 ∧ s.dpExists (n / 4) = false) then .next s
  else match searchRate mode found with
    | none => .next s
    | some rate =>
      let s := (s.atTime at_).inSet n 0 true
      let s := if mode = 6 then s.inSet n 12 true else s
      .next (s.setInput n { s.input n with rate := rate, seen := none, periods := [], code := 0 })

/-- Loss of signal of a port: SIGNAL and LOCKED clear (R214). -/
def State.signalGone (s : State) (n : Nat) : State :=
  let was := s.sourceOn n
  let s := (((s.inSet n 0 false).inSet n 1 false).inSet n 2 false).inSet n 7 false
  let s := (s.inSet n 12 false).setN (0x2100 + n) 3 0
  ((s.setInput n { s.input n with seen := none, periods := [], code := 0 }).refInputCheck n).tunnelSignal n was

/-- INPUT_SIGNAL_LOSS (R214, R238). -/
def execInputSignalLoss (n : Fin 32) (at_ : Nat) (s : State) : Host.Outcome State Fault Refusal :=
  if !s.power.run ∨ s.getBit (0x2100 + n) 2 0 = false then .next s
  else .next (((s.atTime at_).signalGone n).inputLoss n)

/-! ## The writer (R226, R227, R221, R222) -/

/-- Whether the readers of a ring show one frame alone and count under R232: repeat/drop, or phase blend with every reader at the
ring's own period (R233). -/
def State.shownAlone (s : State) (n : Nat) : Bool :=
  let rs := (List.range 96).filter (fun e => s.getN (0x2300 + e) 2 == n && s.getN (0x2300 + e) 1 != 0xFF)
  !s.inBlend n || (!rs.isEmpty && rs.all (fun e => s.samePeriod n (s.getN (0x2300 + e) 1)))

/-- A ring frame begins (R227): a slot is taken, or the frame is discarded and counted. A frame that no reader has used is
dropped when it is overwritten under phase blend (R234), and if it was still the newest in any case (R232). -/
def State.ringFrameStart (s : State) (n : Nat) : State :=
  let s := s.abandonFrame n
  match s.pickSlot n with
  | none =>
    let s := s.inDropped n
    if n < 32 then s.count (0x2100 + n) 0x12 else s
  | some i =>
    let x := s.input n
    let v := x.slot i
    let s := if v.full ∧ v.used = false ∧ (x.newest = some i ∨ !s.shownAlone n) then s.inDropped n else s
    let y := { x.setSlot i {} with writer := some i, begun := true }
    s.setInput n { y with newest := if y.newest = some i then y.newestOf (fun _ => true) else y.newest }

/-- INPUT_FRAME_START (R112, R214, R219, R227): line 1 of a frame, or of its second field, reaches the pins. -/
def execInputFrameStart (n : Fin 32) (field2 : Bool) (main : Colour) (override : Option Colour) (at_ : Nat) (s : State) :
    Host.Outcome State Fault Refusal :=
  if !s.power.run ∨ s.getBit (0x2100 + n) 2 0 = false then .next s
  else
    let s := s.atTime at_
    let x := s.input n
    let s := if field2 then s
      else (s.setInput n { x with conv := convOf (s.inCsc n) main override (x.rate == 4), startAt := s.tbc }).inputPulse n
    let s := if s.sourceOn n then s.tunnelOut n (videoItem (.frameStart field2 main override)) else s
    let begins := !(s.inFields n) || !field2 || decide (1 ≤ s.deintMode n)
    .next (if s.writable n && begins then s.ringFrameStart n else s)

/-- The rows that go into the ring when a field or frame ends, if one does. -/
def State.ringRows (s : State) (n : Nat) (field2 : Bool) (f : List (List Pix)) : Option (List (List Pix)) :=
  let x := s.input n
  if !(s.inFields n) then some f
  else
    let par := b2n field2
    match s.deintMode n with
    | 0 => if field2 then some (weave (x.fields.headD []) f) else none
    | 1 => some (bob f par)
    | _ => match x.fields with
      | opp :: prev :: _ => some (motionAdaptive f opp prev par)
      | _ => some (bob f par)

/-- The slot header (R223). -/
def slotHeader (fm seq doneAt startAt : Nat) (field2 : Bool) : List Byte :=
  padTo 4096 (toLE 4 fm ++ toLE 4 seq ++ toLE 8 doneAt ++ toLE 8 startAt ++ toLE 4 (b2n field2))

/-- Write the rows of a frame, each from its own address; the first response that is not OKAY stops it. -/
def State.writeRows (s : State) (m tag a stride : Nat) : List (List Pix) → State × XResp
  | [] => (s, {})
  | r :: t =>
    let (s, x) := s.writeMem m tag a (rowBytes r)
    if x.code = 0 then s.writeRows m tag (a + stride) stride t else (s, x)

/-- A frame has been written and acknowledged: it becomes the newest complete frame (R227, R232, R238). -/
def State.frameComplete (s : State) (n i w h : Nat) : State :=
  let x := s.input n
  -- the frame it replaces as newest, never selected, is dropped (R232), and is counted no more
  let drop := fun (j : Nat) => (x.slot j).full && !(x.slot j).used && s.shownAlone n
  let (s, x) := match x.newest with
    | some j => if drop j then (s.inDropped n, x.setSlot j { x.slot j with used := true }) else (s, x)
    | none => (s, x)
  let seq := (x.seq + 1) % 2 ^ 32
  let gaps := match x.lastDone with
    | some t => ((s.tbc - t) :: x.gaps).take 16
    | none => x.gaps
  let y := x.setSlot i { full := true, seq := seq, w := w, h := h, doneAt := s.tbc, used := false }
  let y := { y with writer := none, begun := false, newest := some i, seq := seq, lastDone := some s.tbc, gaps := gaps }
  let s := (s.setInput n { y with dead := false, holding := false }).takeToken n
  let s := ((s.inSet n 8 false).inSet n 9 false).inSet n 10 false
  if n < 32 then s.setN (0x2100 + n) 0x15 seq else s

/-- The field history area of a motion-adaptive ring is written; its layout is open (R223; log entry 18). No byte is written that a
reader of the old ring may hold (R230). -/
def State.writeHistory (s : State) (n : Nat) : State × XResp :=
  let hb := historyBytes (s.inReserve n) (s.inDeint n)
  let a := s.ringBase n + s.inDepth n * s.slotBytes n
  if s.deintMode n ≠ 2 ∨ s.oldOver a hb then (s, {})
  else s.writeMem (s.ringMaster n) (s.inTag n) a ((List.range hb).map (Config.historyByte s.seed))

/-- Do the next write if the last was not refused. -/
def thenWrite (q : State × XResp) (f : State → State × XResp) : State × XResp := if q.2.code = 0 then f q.1 else q

/-- A field or frame of an input ends: its rows are converted, deinterlaced and written, then the history, then the header
(R218, R221, R223, R227); a refused write abandons the frame (R236). -/
def State.ringField (s : State) (n : Nat) (field2 : Bool) (raw : Raw) : State :=
  let x := s.input n
  let f := convRows x.conv s.seed raw
  let s := s.drawn
  let rows := s.ringRows n field2 f
  let keep := fun (s : State) => if s.inFields n then s.setInput n { s.input n with fields := (f :: (s.input n).fields).take 2 } else s
  match (if x.begun then x.writer else none), rows with
  | some i, some rows =>
    let m := s.ringMaster n; let tag := s.inTag n; let a := s.slotAddr n i
    let head := slotHeader (s.inFormat n) ((x.seq + 1) % 2 ^ 32) s.tbc x.startAt (field2 && decide (1 ≤ s.deintMode n))
    let q := thenWrite (thenWrite (s.writeRows m tag (a + 4096) (fmtW (s.inReserve n) * 8) rows) (fun s => s.writeHistory n))
      (fun s => s.writeMem m tag a head)
    let s := q.1
    keep (if q.2.code ≠ 0 then ((s.abandonFrame n).inDropped n).inSet n 9 true
      else s.frameComplete n i (fmtW (s.inFormat n)) (fmtH (s.inFormat n)))
  | _, _ => keep (s.writeHistory n).1

/-- INPUT_FRAME_COMPLETE (R212, R218, R221, R227): the last pixel of a field or frame. The field that completes the lock is not one
after it (R221). -/
def execInputFrameComplete (n : Fin 32) (field2 : Bool) (meas : Option FrameMeas) (raw : Raw) (at_ : Nat) (s : State) :
    Host.Outcome State Fault Refusal :=
  if !s.power.run ∨ s.getBit (0x2100 + n) 2 0 = false then .next s
  else
    let s := s.atTime at_
    let was := s.sourceOn n
    let ready := s.writable n
    let s := match meas with
      | some m => s.detect n m
      | none => s
    let s := s.tunnelSignal n was
    let s := if was && s.sourceOn n then s.tunnelOut n (s.frameItem n field2 meas raw) else s
    .next (if ready && s.writable n then s.ringField n field2 raw else s)

/-- WRITER_STARVED (R235). -/
def execWriterStarved (n : Fin 32) (at_ : Nat) (s : State) : Host.Outcome State Fault Refusal :=
  if !s.power.run ∨ (s.input n).begun = false then .next s
  else .next (((((s.atTime at_).abandonFrame n).inDropped n).count (0x2100 + n) 0x11).inSet n 8 true)

/-! ## Readers (R228, R232–R234) -/

/-- A hold on slot i of input n's ring. -/
def State.hold (s : State) (n i : Nat) : Held :=
  let v := (s.input n).slot i
  { inp := n, slot := i, seq := v.seq, pix := s.slotAddr n i + 4096, stride := fmtW (s.inReserve n) * 8, w := v.w, h := v.h,
    bytes := s.slotBytes n - 4096 }

def State.markUsed (s : State) (n i : Nat) : State :=
  let x := s.input n
  s.setInput n (x.setSlot i { x.slot i with used := true })

/-- The input a video layer reads. -/
def State.vlSource (s : State) (e : Nat) : Nat := s.getN (0x2300 + e) 2

/-- The output that shows a video layer, 0xFF where none does: a layer that has left its output shows nowhere until it reaches
another (R193). -/
def State.vlOutput (s : State) (e : Nat) : Nat :=
  let n := s.getN (0x2300 + e) 1
  if n != 0xFF && (s.output n).stays.any (fun x => x == (0x2300 + e, 1, .num 0xFF)) then 0xFF else n

/-- A video layer leaves output `n` at `t`: what its reader holds is held until that output's selection instant (R231). -/
def State.leaveReader (s : State) (e n t : Nat) : State :=
  let r := s.reader e
  if r == {} then s else (s.setReader (96 + e) { r with left := some (n, t) }).setReader e {}

/-- The tokens of readers whose layers have left output `n` before the instant `t` are released (R231). -/
def State.releaseLeft (s : State) (n t : Nat) : State :=
  { s with readers := s.readers.filter (fun p => !p.2.left.any (fun l => l.1 == n && decide (l.2 < t))) }

/-- The frame a reader takes at its selection instant. -/
def State.select (s : State) (e : Nat) : State :=
  let n := s.vlSource e
  let out := s.vlOutput e
  let s := s.releaseLeft out (s.tbc + 1)
  let x := s.input n
  let r := s.reader e
  let free := s.setReader e { last := r.last }
  let status := fun (s : State) (nosig : Bool) =>
    (s.setBit (0x2300 + e) 0x0D 1 nosig).setBit (0x2300 + e) 0x0D 2 (!nosig && (s.input n).holding)
  match (if x.dead || out == 0xFF then none else x.newest) with
  | none => status free (out != 0xFF)
  | some i =>
    let ti := x.period
    let pair := if s.inBlend n && !s.samePeriod n out then x.second else none
    match pair with
    | none =>
      let key := (n, (x.slot i).seq, (x.slot i).seq)
      let s := if r.last = some key then s.inRepeated n else s
      let s := (s.setReader e { b := some (s.hold n i), w := 256, last := some key }).markUsed n i
      status s false
    | some j =>
      let key := (n, (x.slot j).seq, (x.slot i).seq)
      let w := min 255 (256 * (s.tbc - (x.slot i).doneAt) / max 1 ti)
      let s := if r.last = some key then s.inRepeated n else s
      let s := s.setReader e { b := some (s.hold n i), a := some (s.hold n j), w := w, last := some key }
      status ((s.markUsed n i).markUsed n j) false

/-- READER_SELECT (R228): the selection instant of a video layer engine. -/
def execReaderSelect (e : Fin 96) (at_ : Nat) (s : State) : Host.Outcome State Fault Refusal :=
  if !s.power.run then .next s else .next ((s.atTime at_).select e)

/-! ## EDID and AUX (R215–R217) -/

/-- Link rate bandwidth codes of the DPCD by IN_DP_MAX_RATE. -/
def dpBwCode (r : Nat) : Nat := [0x06, 0x0A, 0x14, 0x1E].getD r 0x06

/-- A DPCD byte of DP receiver k: the rate and lane limits (in the extended capability field too), no MST, no DSC, no content
protection (R217; log entry 17), the link configuration registers as the source has written them, and otherwise what the standard lays down. -/
def State.dpcdRead (s : State) (k a : Nat) : Byte :=
  let i := 0x2100 + 4 * k
  if a = 1 ∨ a = 0x2201 then BitVec.ofNat 8 (dpBwCode (s.getN i 0x17))
  else if a = 2 ∨ a = 0x2202 then BitVec.ofNat 8 (((Config.dpcdByte s.seed a).toNat / 32) * 32 + s.getN i 0x18)
  else if a = 0x21 ∨ inRange a 0x60 0x10 ∨ inRange a 0x68000 0x2000 then 0#8
  else if inRange a 0x100 0x20 then BitVec.ofNat 8 (tabGet 0 (s.input (4 * k)).dpcd a)
  else Config.dpcdByte s.seed a

/-- Write DPCD bytes: the link configuration and training registers keep them, others are acknowledged and ignored. -/
def dpcdWrite : Tab Nat → Nat → List Byte → Tab Nat
  | t, _, [] => t
  | t, a, b :: l => dpcdWrite (if inRange a 0x100 0x20 then tabSet 0 t a b.toNat else t) (a + 1) l

/-- AUX_REQUEST (R215). A receiver that does not exist gives no answer. -/
def execAuxRequest (k : Fin 8) (req : AuxReq) (s : State) : Host.Outcome State Fault Refusal :=
  let n := 4 * k.val
  let x := s.input n
  if !s.power.run ∨ s.dpExists k = false then .next (s.setInput n { x with reply := none, nack := false })
  else
    match req with
    | .edidRead seg ofs len =>
      let l := (List.range len).map (fun i => (s.getB (0x2100 + n) 0x19).getD (256 * seg.toNat + ofs.toNat + i) 0#8)
      .next (s.setInput n { x with reply := some l, nack := false })
    | .otherI2c _ => .next (s.setInput n { x with reply := none, nack := true })
    | .dpcdRead a len =>
      let l := (List.range len).map (fun i => s.dpcdRead k (a.toNat + i))
      .next ((s.setInput n { x with reply := some l, nack := false }).drawn)
    | .dpcdWrite a l => .next (s.setInput n { x with dpcd := dpcdWrite x.dpcd a.toNat l, reply := some [], nack := false })

/-- DP_HPD follows the receiver's existence (R215). -/
def State.hpdFollow (s : State) (k : Nat) : State :=
  let x := s.input (4 * k)
  let on := s.power.run && s.dpExists k
  if on then if x.hpd ∨ x.hpdPulse.isSome then s else s.setInput (4 * k) { x with hpd := true }
  else s.setInput (4 * k) { x with hpd := false, hpdPulse := none }

/-- A BLOCK_WRITE to IN_EDID completes while DP_HPD is high: it goes low for 100 ms (R216). -/
def State.edidWritten (s : State) (n : Nat) : State :=
  let x := s.input n
  if x.hpd then s.setInput n { x with hpd := false, hpdPulse := some (s.tbc + 100 * Config.ticksPerMs) } else s

/-- EDID_HPD_PULSE_END (R216): 100 ms later DP_HPD goes high again. -/
def execEdidHpdPulseEnd (k : Fin 8) (s : State) : Host.Outcome State Fault Refusal :=
  let x := s.input (4 * k)
  match x.hpdPulse with
  | none => .next s
  | some t =>
    let s := s.atTime t
    .next ((s.setInput (4 * k) { x with hpdPulse := none }).hpdFollow k)

/-! ## Apply points and start -/

/-- Members of a DP group report nothing: DP_MEMBER follows the group, and their counters stand at 0 (R210). -/
def State.memberFollow (s : State) (l : Nat) : State :=
  let s := s.inSet l 11 (s.dpMember l)
  if s.dpMember l then [8, 9, 0x11, 0x12, 0x13, 0x16].foldl (fun s k => s.setN (0x2100 + l) k 0) s else s

/-- The input takes up a change of IN_MODE: the receiver starts afresh (R208). -/
def State.inputMode (s : State) (n : Nat) : State :=
  let had := s.getBit (0x2100 + n) 2 0
  let s := s.signalGone n
  let s := if had then s.inputLoss n else s
  let s := (List.range 4).foldl (fun s i => s.memberFollow (n / 4 * 4 + i)) s
  s.hpdFollow (n / 4)

/-- The ring is rebuilt; a hold ends where no complete frame is left (R230, R238). -/
def State.inputRebuild (s : State) (n : Nat) : State :=
  let s := s.ringRebuild n
  (if (s.input n).holding then s.holdEnd n else s).takeToken n

/-- An input takes up entries at its apply point (R208, R230): `modeChanged`, `ringChanged` say which kinds changed. -/
def State.inputTake (s : State) (n : Nat) (modeChanged ringChanged : Bool) : State :=
  let s := if modeChanged ∧ n < 32 then s.inputMode n else s
  let s := if modeChanged ∨ ringChanged then s.inputRebuild n else s
  if 32 ≤ n ∨ s.getBit (0x2100 + n) 2 1 = false then s else
  let d := (s.input n).seen.getD (0, 0, 0, false)
  let tooBig := s.oversize n d.1 d.2.1
  let was := s.getBit (0x2100 + n) 2 7
  let s := s.inSet n 7 tooBig
  (if tooBig && !was then s.inputLoss n else s).takeToken n

/-- The inputs at a data-plane start: no signal, empty rings, DP_HPD as the modes give it. -/
def State.inputsStart (s : State) : State :=
  let s := { s with inputs := [], readers := [] }
  let s := (List.range 64).foldl (fun s n => s.ringRebuild n) s
  let s := (List.range 32).foldl State.memberFollow s
  (List.range 8).foldl (fun s k => s.hpdFollow k) s

end Sys2Proof.Machine
end

