-- ==== Sys2Proof/Machine/Compose.lean ====
section
/-! DEFINITION. Layer composition (chapter 8) and bit-depth reduction (R280): library, scaler, surfaces, colour
processing, stacking, occlusion, zone statistics, gain, safe scenes, and the segment an output transmits (R284, R285). -/
namespace Sys2Proof.Machine

/-- Do something in the configuration that output `n` uses: the active one, with the values that its own apply point has not reached
laid over it (R193, R243, R259). -/
def State.within {α : Type} (s : State) (n : Nat) (f : State → State × α) : State × α :=
  let stays := (s.output n).stays
  let old := stays.map (fun e => (e.1, e.2.1, s.getV e.1 e.2.1))
  let q := f (s.lay stays)
  (q.1.lay old, q.2)

/-! ## The library (R244–R246) -/

/-- Content size by kind; 0 where the kind cannot be referenced. -/
def libSize (kind : Nat) : Nat := if kind = 1 then 1792 else if kind = 2 ∨ kind = 3 then 13830 else if kind = 4 then 1024 else 0

/-- A coefficient of a kind 1 entry: axis 0 horizontal (8 taps), 1 vertical (6 taps). -/
def coefAt (l : List Byte) (axis phase t : Nat) : Int :=
  toInt 16 (leAt l (if axis = 0 then (phase * 8 + t) * 2 else 1024 + (phase * 6 + t) * 2) 2)

/-- Whether content passes R245 for a reference of kind `kind`. -/
def libValid (kind have_ : Nat) (l : List Byte) : Bool :=
  kind == have_ && l.length == libSize kind && libSize kind != 0 &&
  (kind != 1 || [0, 1].all (fun axis =>
    (List.range 64).all (fun p =>
      let cs := (List.range (if axis = 0 then 8 else 6)).map (coefAt l axis p)
      cs.all (fun c => decide (-2048 ≤ c) && decide (c ≤ 2047)) && cs.foldl (· + ·) 0 == 2048)))

/-- The content a reference of kind `kind` yields: none for 0xFF or for content that fails R245 (R246). -/
def State.libRef (s : State) (ref kind : Nat) : Option (List Byte) :=
  let l := s.getB (0x2600 + ref) 2
  if ref ≠ 0xFF ∧ libValid kind (s.getN (0x2600 + ref) 1) l then some l else none

/-- Whether a built-in table serves a reference to an entry (LIB_DEFAULTED). -/
def State.libDefaulted (s : State) (ref kind : Nat) : Bool := ref != 0xFF && (s.libRef ref kind).isNone

/-- The bit number of the highest set bit. -/
def topBit (v : Nat) : Nat := Nat.log2 v

/-- The segmented LUT (R244), component `c` of content `l`. -/
def lutMap (l : List Byte) (c v : Nat) : Nat :=
  let e := fun (i : Nat) => Int.ofNat (leAt l ((c * 2305 + i) * 2) 2)
  if v < 256 then (e v).toNat
  else
    let k := topBit v
    let idx := 256 * (k - 7) + ((v - 2 ^ k) >>> (k - 8))
    let frac := (v - 2 ^ k) % 2 ^ (k - 8)
    -- for k = 8 frac is 0, and the rounding term 2^(k − 9) has no weight
    clip16 (e idx + ((e (idx + 1) - e idx) * Int.ofNat frac + Int.ofNat (2 ^ (k - 8) / 2)) / Int.ofNat (2 ^ (k - 8)))

/-- `round(32,768 · (v / 32,768)^2.4)`, v at most 0x8000: the built-in pre-blend LUT of graphic layers (R246). -/
def preBuiltin (v : Nat) : Nat := ratPowRound 32768 12 5 16 (min v 0x8000) 32768

/-- `round(65,535 · min(v / 32,768, 1)^(1/2.4))`: the built-in post-blend LUT (R246). -/
def postBuiltin (v : Nat) : Nat := ratPowRound 65535 5 12 17 (min v 0x8000) 32768

/-- The linearised 10-bit background component (R266). -/
def bgLinear (d : Nat) : Nat := ratPowRound 32768 12 5 16 d 1023

/-- A background colour word as an opaque pixel (R266). -/
def bgPix (v : Nat) : LPix := { r := bgLinear (bits v 29 20), g := bgLinear (bits v 19 10), b := bgLinear (bits v 9 0), a := 0x8000 }

/-- The sine series from its term `t` of degree k on, in 2^-60. -/
def sinSeries (x : Int) : Nat → Nat → Int → Int
  | 0, _, t => t
  | f + 1, k, t => t + sinSeries x f (k + 2) (-(t * x / 2 ^ 60 * x / 2 ^ 60) / Int.ofNat ((k + 1) * (k + 2)))

/-- sin (π · m / d) in 2^-60. -/
def sinPi (m d : Nat) : Int :=
  let r := m % (2 * d)
  let q := if d < r then r - d else r
  let x : Int := 3622009729038561421 * Int.ofNat (min q (d - q)) / Int.ofNat d
  let v := sinSeries x 14 1 x
  if d < r then -v else v

/-- The Lanczos kernel of `a` lobes at the distance m / 64 of a tap, m not 0, but for a factor that all taps share (R246). -/
def lanczosWeight (a m : Nat) : Int := sinPi m 64 * sinPi m (64 * a) / Int.ofNat (m * m)

/-- The built-in coefficients of a phase (R246): the kernel at each tap over the sum of all, times 2048, rounded down or up so that
they sum to 2048. Which of them go up is open (log entry 20). -/
def lanczosTaps (axis phase : Nat) : List Int :=
  let (a, mid, k) := if axis = 0 then (4, 3, 8) else (3, 2, 6)
  if phase = 0 then (List.range k).map (fun t => if t = mid then 2048 else 0)
  else
    let ws := (List.range k).map (fun t => lanczosWeight a ((Int.ofNat (64 * t) - Int.ofNat (64 * mid + phase)).natAbs))
    let sum := ws.foldl (· + ·) 0
    let down := ws.map (fun w => 2048 * w / sum)
    let up := (2048 - down.foldl (· + ·) 0).toNat
    let rank := fun (t : Nat) => Config.lanczosRank axis phase t * 8 + t
    (List.range k).map (fun t =>
      down.getD t 0 + if ((List.range k).filter (fun u => decide (rank u < rank t))).length < up then 1 else 0)

/-- The coefficient of a phase and tap: of the entry, or of the built-in Lanczos set. -/
def coefOf (set_ : Option (List Byte)) (axis phase t : Nat) : Int :=
  match set_ with
  | some l => coefAt l axis phase t
  | none => (lanczosTaps axis phase).getD t 0

/-! ## Layers of an output -/

/-- A layer: engine number, video or graphic. -/
structure Layer where
  gl : Bool
  e : Nat
  deriving DecidableEq, Repr

def Layer.idx (l : Layer) : Nat := (if l.gl then 0x2400 else 0x2300) + l.e
/-- Its number in OUT_LAST_UNDERRUN and KD_INSTANCE. -/
def Layer.id (l : Layer) : Nat := if l.gl then 0x100 + l.e else l.e
def State.lGet (s : State) (l : Layer) (v g : Nat) : Nat := s.getN l.idx (if l.gl then g else v)
def State.lOut (s : State) (l : Layer) : Nat := s.lGet l 1 1
def State.lPos (s : State) (l : Layer) : Int × Int :=
  let p := s.lGet l 4 6
  (toInt 16 (bits p 31 16), toInt 16 (bits p 15 0))
def State.lSize (s : State) (l : Layer) : Nat × Nat := (bits (s.lGet l 5 5) 31 16, bits (s.lGet l 5 5) 15 0)
def State.lZ (s : State) (l : Layer) : Nat := s.lGet l 6 7
def State.lAlpha (s : State) (l : Layer) : Nat := s.lGet l 7 8
def State.lVisible (s : State) (l : Layer) : Bool := s.lGet l 8 9 == 1
def State.lTag (s : State) (l : Layer) : Nat := s.lGet l 0x0E 0x11
def State.lFormat (s : State) (l : Layer) : Nat := s.getN l.idx 4
def State.lStatus (s : State) (l : Layer) (bit : Nat) (b : Bool) : State := s.setBit l.idx (if l.gl then 0x10 else 0x0D) bit b

/-- Every layer engine. -/
def allLayers : List Layer := (List.range 96).map (fun e => { gl := false, e := e }) ++ (List.range 192).map (fun e => { gl := true, e := e })

/-- Whether `a` lies beneath `b` in the stack (R255). -/
def State.beneath (s : State) (a b : Layer) : Bool :=
  if s.lZ a ≠ s.lZ b then decide (s.lZ a < s.lZ b)
  else if a.gl ≠ b.gl then !a.gl else decide (a.e < b.e)

/-- Insert a layer into a stack, bottom first. -/
def State.insertLayer (s : State) (l : Layer) : List Layer → List Layer
  | [] => [l]
  | x :: t => if s.beneath l x then l :: x :: t else x :: s.insertLayer l t

/-- The layers assigned to an output, bottom first. -/
def State.layersOf (s : State) (n : Nat) : List Layer :=
  (allLayers.filter (fun l => s.lOut l == n)).foldl (fun acc l => s.insertLayer l acc) []

/-! ## Tiles (R257, R258) -/

/-- Columns [x0, x1) and rows [y0, y1) of a tile, clipped to the raster. -/
def tileRect (w h tx ty : Nat) : Nat × Nat × Nat × Nat := (64 * tx, min w (64 * tx + 64), 32 * ty, min h (32 * ty + 32))

def tilesX (w : Nat) : Nat := ceilDiv w 64
def tilesY (h : Nat) : Nat := ceilDiv h 32

def State.touches (s : State) (l : Layer) (w h tx ty : Nat) : Bool :=
  let (x0, x1, y0, y1) := tileRect w h tx ty
  let (x, y) := s.lPos l; let (lw, lh) := s.lSize l
  decide (x < Int.ofNat x1) && decide (Int.ofNat x0 < x + lw) && decide (y < Int.ofNat y1) && decide (Int.ofNat y0 < y + lh)

def State.covers (s : State) (l : Layer) (w h tx ty : Nat) : Bool :=
  let (x0, x1, y0, y1) := tileRect w h tx ty
  let (x, y) := s.lPos l; let (lw, lh) := s.lSize l
  decide (x ≤ Int.ofNat x0) && decide (Int.ofNat x1 ≤ x + lw) && decide (y ≤ Int.ofNat y0) && decide (Int.ofNat y1 ≤ y + lh)

/-- Whether a layer is opaque (R257). -/
def State.opaqueLayer (s : State) (l : Layer) : Bool :=
  s.lVisible l && s.lAlpha l == 0x8000 &&
  (if l.gl then s.getN l.idx 0x0F == 1 || s.lFormat l == 3 else s.getN l.idx 0x0C == 1)

/-- Whether a layer is skipped in a tile: an opaque layer above it covers the tile (R258). With CO_OCCLUSION 0 nothing is
skipped. `above` are the layers above it. -/
def State.skips (s : State) (n : Nat) (above : List Layer) (w h tx ty : Nat) : Bool :=
  s.getN (0x2500 + n) 1 == 1 && above.any (fun m => s.opaqueLayer m && s.covers m w h tx ty)

/-! ## Surfaces (R250–R252) -/

def bppOf (format : Nat) : Nat := [0, 32, 32, 16, 16, 8, 8, 4].getD format 8

/-- A field of `b` bits expanded to U1.15 (R251). -/
def expand (b d : Nat) : Nat := roundDiv (32768 * d) (2 ^ b - 1)

def argb8888 (v : Nat) : LPix := { r := expand 8 (bits v 23 16), g := expand 8 (bits v 15 8), b := expand 8 (bits v 7 0), a := expand 8 (bits v 31 24) }

/-- Decode a pixel word (R250). `pal` is the palette content, `tint` GL_TINT. -/
def decodePix (format v : Nat) (pal : Option (List Byte)) (tint : Nat) : LPix :=
  let t := argb8888 tint
  match format with
  | 1 => argb8888 v
  | 2 => { r := expand 10 (bits v 29 20), g := expand 10 (bits v 19 10), b := expand 10 (bits v 9 0), a := expand 2 (bits v 31 30) }
  | 3 => { r := expand 5 (bits v 15 11), g := expand 6 (bits v 10 5), b := expand 5 (bits v 4 0), a := 0x8000 }
  | 4 => { r := expand 4 (bits v 11 8), g := expand 4 (bits v 7 4), b := expand 4 (bits v 3 0), a := expand 4 (bits v 15 12) }
  | 5 => match pal with
    | some l => argb8888 (leAt l (4 * v) 4)
    | none => { r := expand 8 v, g := expand 8 v, b := expand 8 v, a := 0x8000 }
  | 6 => { t with a := (t.a * expand 8 v + 0x4000) >>> 15 }
  | _ => { t with a := (t.a * expand 4 v + 0x4000) >>> 15 }

/-- Premultiplied colour divided by its alpha (R252). -/
def unmult (p : LPix) : LPix :=
  let f := fun (c : Nat) => if p.a = 0 then 0 else min 0x8000 (roundDiv (c * 0x8000) p.a)
  { p with r := f p.r, g := f p.g, b := f p.b }

/-- The pixel words of columns [c0, c0 + k) of a fetched row; `l` starts at the byte of column c0. -/
def pixWords (bpp c0 k : Nat) (l : List Byte) : List Nat :=
  (List.range k).map (fun i =>
    if bpp = 4 then
      let b := byteAt l ((c0 + i) / 2 - c0 / 2)
      if (c0 + i) % 2 = 0 then bits b 3 0 else bits b 7 4
    else leAt l (i * (bpp / 8)) (bpp / 8))

/-- Fetch `k` pixels of a surface row from column c0. -/
def State.fetchSurface (s : State) (m tag base stride format row c0 k : Nat) : State × XResp × List Nat :=
  let bpp := bppOf format
  let b0 := c0 * bpp / 8
  let b1 := ceilDiv ((c0 + k) * bpp) 8
  let (s, r) := s.readMem m tag (base + row * stride + b0) (b1 - b0)
  (s, r, pixWords bpp c0 k r.data)

/-! ## Colour processing and blending (R254, R256) -/

/-- Whether a number is one of 32-bit signed arithmetic. -/
def fits32 (x : Int) : Bool := decide (-2147483648 ≤ x) && decide (x ≤ 2147483647)

/-- A sum of R254 in 32-bit signed arithmetic: where a step of it has no 32-bit result the manual states none (log entry 126). -/
def sum32 (x y z : Int) : Int :=
  if fits32 (x + y) && fits32 (x + y + z) && fits32 (x + y + z + 4096) then x + y + z + 4096 else (Config.matrixOver x y z).toInt

/-- The layer matrix on three components (R254). -/
def matrix (m : List Byte) (r g b : Nat) : Nat × Nat × Nat :=
  let c := fun (i : Nat) => toInt 16 (leAt m (2 * i) 2)
  let row := fun (i : Nat) =>
    clip16 (sum32 (c (3 * i) * Int.ofNat r) (c (3 * i + 1) * Int.ofNat g) (c (3 * i + 2) * Int.ofNat b) / 8192 + c (9 + i))
  (row 0, row 1, row 2)

/-- A layer pixel with the alpha of its layer (R256). -/
def LPix.fade (p : LPix) (alpha : Nat) : LPix := { p with a := (p.a * alpha + 0x4000) >>> 15 }

/-- Blend a layer pixel over a colour (R256). -/
def blend (c : LPix) (p : LPix) : LPix :=
  let f := fun (x y : Nat) => (y * p.a + x * (0x8000 - p.a) + 0x4000) >>> 15
  { r := f c.r p.r, g := f c.g p.g, b := f c.b p.b, a := 0x8000 }

/-- Pre-blend LUT, matrix and clip of a layer's pixel (R254). -/
def State.process (s : State) (l : Layer) (p : LPix) : LPix :=
  let ref := s.lGet l 0x0A 0x0C
  let lut := fun (c v : Nat) => match s.libRef ref 2 with
    | some d => lutMap d c v
    | none => if l.gl then preBuiltin v else v
  let (r, g, b) := matrix (s.getB l.idx (if l.gl then 0x0D else 0x0B)) (lut 0 p.r) (lut 1 p.g) (lut 2 p.b)
  { r := r, g := g, b := b, a := p.a }

/-! ## The scaler (R247, R248) -/

/-- The crop of a layer on a frame of size w × h: x, y, width, height, clipped to the frame; the whole frame where nothing of it is
left. -/
def cropOf (crop w h : Nat) : Nat × Nat × Nat × Nat :=
  let x := min (bits crop 63 48) w; let y := min (bits crop 47 32) h
  let cw := min (bits crop 31 16) (w - x); let ch := min (bits crop 15 0) (h - y)
  if cw = 0 ∨ ch = 0 then (0, 0, w, h) else (x, y, cw, ch)

/-- For destination position j on an axis: the tap positions, clamped to the crop, and their phase; one tap where the
axis is not scaled. -/
def tapsOf (axis c0 wc wd j : Nat) : List Nat × Nat :=
  if wc = wd then ([c0 + j], 0)
  else
    let step := wc * 65536 / wd
    let xs : Int := Int.ofNat (c0 * 65536 + step / 2 + j * step) - 32768
    let i0 := xs / 65536
    let p0 := ((xs % 65536).toNat + 512) / 1024
    let (i, p) := if p0 = 64 then (i0 + 1, 0) else (i0, p0)
    let (lo, k) := if axis = 0 then (-3, 8) else ((-2 : Int), 6)
    ((List.range k).map (fun t => (clampInt (Int.ofNat c0) (Int.ofNat (c0 + wc - 1)) (i + lo + Int.ofNat t)).toNat), p)

/-- The weighted sum of taps (R248). -/
def tapSum (cs : List Int) (vs : List Nat) : Nat :=
  clip16 (((cs.zip vs).foldl (fun a p => a + p.1 * Int.ofNat p.2) 0 + 1024) / 2048)

/-- Apply a filter to taps: a single tap passes unchanged. -/
def filterTaps (set_ : Option (List Byte)) (axis phase : Nat) (vs : List Nat) : Nat :=
  match vs with
  | [v] => v
  | _ => tapSum ((List.range vs.length).map (coefOf set_ axis phase)) vs

/-- One row of a held frame, columns [c0, c0 + k): red, green, blue. -/
def State.fetchRow (s : State) (m tag : Nat) (f : Held) (y c0 k : Nat) : State × XResp × List (Nat × Nat × Nat) :=
  let (s, r) := s.readMem m tag (f.pix + y * f.stride + 8 * c0) (8 * k)
  (s, r, (List.range k).map (fun i => (leAt r.data (8 * i) 2, leAt r.data (8 * i + 2) 2, leAt r.data (8 * i + 4) 2)))

/-- A row of the frame a reader shows: one frame, or the blend of its pair (R233). -/
def State.shownRow (s : State) (m tag : Nat) (rd : Reader) (f : Held) (y c0 k : Nat) : State × XResp × List (Nat × Nat × Nat) :=
  let (s, r, b) := s.fetchRow m tag f y c0 k
  match rd.a with
  | none => (s, r, b)
  | some fa =>
    let (s, ra, a) := s.fetchRow m tag fa y c0 k
    let mix := fun (u v : Nat) => ((256 - rd.w) * u + rd.w * v + 128) >>> 8
    (s, if r.code = 0 then ra else r, (a.zip b).map (fun p => (mix p.1.1 p.2.1, mix p.1.2.1 p.2.2.1, mix p.1.2.2 p.2.2.2)))

/-- Rows for each vertical tap, in order; the worst response is kept. -/
def State.tapRows (s : State) (m tag : Nat) (rd : Reader) (f : Held) (c0 k : Nat) : List Nat → State × XResp × List (List (Nat × Nat × Nat))
  | [] => (s, {}, [])
  | y :: t =>
    let (s, r, row) := s.shownRow m tag rd f y c0 k
    let (s, r2, rows) := s.tapRows m tag rd f c0 k t
    (s, if r.code = 0 then r2 else r, row :: rows)

/-! ## One layer's segment -/

/-- The columns of a layer within a segment: first and one past the last, in raster coordinates. -/
def State.span (s : State) (l : Layer) (w tx : Nat) : Nat × Nat :=
  let x := (s.lPos l).1; let lw := (s.lSize l).1
  let lo := (clampInt (Int.ofNat (64 * tx)) (Int.ofNat (min w (64 * tx + 64))) x).toNat
  let hi := (clampInt (Int.ofNat (64 * tx)) (Int.ofNat (min w (64 * tx + 64))) (x + lw)).toNat
  (lo, hi)

/-- Place pixels for columns [lo, ...) into a segment's 64 columns. -/
def placeSeg (tx lo : Nat) (ps : List LPix) : List (Option LPix) :=
  (List.range 64).map (fun i => if 64 * tx + i < lo then none else ps[64 * tx + i - lo]?)

/-- The fetch master of an output (Block map). -/
def fetchMaster (n : Nat) : Nat := 4 + n / 8

/-- The reader of a video layer as output `n` uses it: what the layer has left behind, while it still shows the layer that another
output has taken up (R193, R231). -/
def State.readerFor (s : State) (n e : Nat) : Reader :=
  s.reader (if (s.output n).stays.any (fun x => x.1 == 0x2300 + e && x.2.1 == 1) then 96 + e else e)

/-- A video layer's pixels on line y of the raster for columns [lo, hi), before colour processing. -/
def State.videoSeg (s : State) (n : Nat) (l : Layer) (f : Held) (y lo hi : Nat) : State × XResp × List LPix :=
  let (cx, cy, cw, ch) := cropOf (s.getN l.idx 3) f.w f.h
  let (dw, dh) := s.lSize l
  let (px, py) := s.lPos l
  let jy := (Int.ofNat y - py).toNat
  let jx := fun (x : Nat) => (Int.ofNat x - px).toNat
  let set_ := s.libRef (s.getN l.idx 9) 1
  let (ys, yp) := tapsOf 1 cy ch dh jy
  let cols := (List.range (hi - lo)).map (fun i => tapsOf 0 cx cw dw (jx (lo + i)))
  let all := cols.flatMap (·.1)
  let c0 := all.foldl min (all.headD 0)
  let c1 := all.foldl max 0
  let (s, r, rows) := s.tapRows (fetchMaster n) (s.lTag l) (s.readerFor n l.e) f c0 (c1 + 1 - c0) ys
  let comp := fun (g : Nat × Nat × Nat → Nat) (c : List Nat × Nat) =>
    filterTaps set_ 1 yp (rows.map (fun row => filterTaps set_ 0 c.2 (c.1.map (fun x => g (row.getD (x - c0) (0, 0, 0))))))
  (s, r, cols.map (fun c => { r := comp (·.1) c, g := comp (·.2.1) c, b := comp (·.2.2) c, a := 0x8000 }))

/-- A graphic layer's pixels on line y for columns [lo, hi). -/
def State.graphicSeg (s : State) (n : Nat) (l : Layer) (y lo hi : Nat) : State × XResp × List LPix :=
  let (px, py) := s.lPos l
  let row := (Int.ofNat y - py).toNat
  let c0 := (Int.ofNat lo - px).toNat
  let format := s.lFormat l
  let (s, r, ws) := s.fetchSurface (fetchMaster n) (s.lTag l) (s.getN l.idx 2) (s.getN l.idx 3) format row c0 (hi - lo)
  let pal := s.libRef (s.getN l.idx 0x0A) 4
  let op := s.getN l.idx 0x0F == 1
  let pre := s.getN l.idx 0x0E == 1
  (s, r, ws.map (fun w =>
    let p := decodePix format w pal (s.getN l.idx 0x0B)
    let p := if op then { p with a := 0x8000 } else p
    if pre then unmult p else p))

/-- The fill of R249, R261 and R284: the background at full opacity. -/
def State.fillSeg (s : State) (n lo hi : Nat) : List LPix := List.replicate (hi - lo) (bgPix (s.getN (0x2200 + n) 9))

/-- Record a replaced segment of a layer (R285): the pair counts once per frame, the first one of a frame is logged. -/
def State.underrun (s : State) (n id tx ty : Nat) (ue : Bool) : State :=
  let o := s.output n
  if o.under.contains (id, tx, ty) then s
  else
    let first := o.under.isEmpty
    let s := (s.setOutput n { o with under := (id, tx, ty) :: o.under }).count (0x2200 + n) 5
    if !first then s
    else
      let s := (s.setBit (0x2200 + n) 4 7 true).setN (0x2200 + n) 0x14 ((id <<< 48) ||| (tx <<< 40) ||| (ty <<< 32) ||| (o.frames % 2 ^ 32))
      (s.dpLog 1 o.start n (b2n ue <<< 2) (toLE 2 id ++ [BitVec.ofNat 8 tx, BitVec.ofNat 8 ty] ++ toLE 2 (o.frames % 65536))).1.event 16

/-- One layer's segment of line y as the blend takes it, its layer's alpha in every pixel: fetched, or replaced (R261, R284). The fill
of R249 has the layer's alpha; the background of R261 and R284 is at full opacity. The segment is kept for the next line. -/
def State.layerSeg (s : State) (n : Nat) (l : Layer) (w y tx : Nat) (late : Bool) : State × List (Option LPix) :=
  let (lo, hi) := s.span l w tx
  let ty := y / 32
  let o := s.output n
  let put := fun (s : State) (seg : List (Option LPix)) =>
    let o := s.output n
    (s.setOutput n { o with segs := tabSet [] o.segs (l.id * 256 + tx) seg }, seg)
  let fill := placeSeg tx lo (s.fillSeg n lo hi)
  -- the same tile column on the previous output line, or the background on the first line or where it was skipped
  let held := if y = 0 then fill else
    match tabGet [] o.prev (l.id * 256 + tx) with
    | [] => fill
    | seg => seg
  if o.denied.contains (l.id, tx, ty) then put s fill
  else if late then
    let s := s.underrun n l.id tx ty false
    put s held
  else
    let faded := fun (ps : List LPix) => placeSeg tx lo (ps.map (fun p => p.fade (s.lAlpha l)))
    let frame := (s.readerFor n l.e).b
    if !l.gl && frame.isNone then put s (faded (if s.getN l.idx 0x0C = 1 then s.fillSeg n lo hi else []))
    else
      let (s, r, ps) := match frame, l.gl with
        | some f, false => s.videoSeg n l f y lo hi
        | _, _ => s.graphicSeg n l y lo hi
      if r.code = 0 then put s (faded (ps.map (s.process l)))
      else if r.code = 1 then
        let s := s.underrun n l.id tx ty true
        put s held
      else
        let o := s.output n
        let s := s.setOutput n { o with denied := (l.id, tx, ty) :: o.denied }
        let s := (s.lStatus l 3 true).setBit (0x2500 + n) 6 3 true
        put s fill

/-- Blend the layers of a segment, bottom first (R256). -/
def State.stack (s : State) (n w h y tx : Nat) (late : List Nat) : List Layer → List LPix → State × List LPix
  | [], c => (s, c)
  | l :: above, c =>
    let py := (s.lPos l).2
    let on := s.lVisible l && decide (py ≤ Int.ofNat y) && decide (Int.ofNat y < py + (s.lSize l).2) && s.touches l w h tx (y / 32)
    if !on || s.skips n above w h tx (y / 32) then s.stack n w h y tx late above c
    else
      let (s, seg) := s.layerSeg n l w y tx (late.contains l.id)
      let c := (c.zip seg).map (fun p => match p.2 with
        | some q => blend p.1 q
        | none => p.1)
      s.stack n w h y tx late above c

/-! ## Safe scenes (R267) -/

/-- The bytes of the safe scene an output selects, none for 0xFF. -/
def State.safeScene (s : State) (n : Nat) : Option (List Byte) :=
  let k := s.getN (0x2200 + n) 6
  if k ≤ 15 then some (s.getB (0x26E0 + k) 0) else none

/-- A segment of the safe scene: background and surface through the built-in pre-blend curve. -/
def State.safeSeg (s : State) (n w y tx : Nat) (late : Bool) : State × List LPix :=
  let bgw := match s.safeScene n with
    | some l => leAt l 0 4
    | none => s.getN (0x2200 + n) 9
  let bg := List.replicate (min w (64 * tx + 64) - 64 * tx) (bgPix bgw)
  match s.safeScene n with
  | none => (s, bg)
  | some l =>
    let sw := leAt l 20 2; let sh := leAt l 22 2
    let px := toInt 16 (leAt l 24 2); let py := toInt 16 (leAt l 26 2)
    let lo := (clampInt (Int.ofNat (64 * tx)) (Int.ofNat (min w (64 * tx + 64))) px).toNat
    let hi := (clampInt (Int.ofNat (64 * tx)) (Int.ofNat (min w (64 * tx + 64))) (px + sw)).toNat
    if sw = 0 ∨ hi ≤ lo ∨ Int.ofNat y < py ∨ py + sh ≤ Int.ofNat y then (s, bg)
    else
      let format := byteAt l 28
      let o := s.output n
      let keep := fun (s : State) (seg : List (Option LPix)) =>
        let o := s.output n
        (s.setOutput n { o with segs := tabSet [] o.segs (0x3FF * 256 + tx) seg },
          (bg.zip seg).map (fun p => match p.2 with
            | some q => blend p.1 q
            | none => p.1))
      let fill := placeSeg tx lo (s.fillSeg n lo hi)
      let held := match (if y = 0 then [] else tabGet [] o.prev (0x3FF * 256 + tx)) with
        | [] => fill
        | seg => seg
      if o.denied.contains (0x3FF, tx, y / 32) then keep s fill
      else if late then keep (s.underrun n 0x3FF tx (y / 32) false) held
      else
        let (s, r, ws) := s.fetchSurface (fetchMaster n) (s.getN (0x2200 + n) 7) (leAt l 8 8) (leAt l 16 4) format
          (Int.ofNat y - py).toNat (Int.ofNat lo - px).toNat (hi - lo)
        if r.code = 0 then
          keep s (placeSeg tx lo (ws.map (fun w =>
            let p := decodePix format w none (leAt l 4 4)
            { p with r := preBuiltin p.r, g := preBuiltin p.g, b := preBuiltin p.b })))
        else if r.code = 1 then keep (s.underrun n 0x3FF tx (y / 32) true) held
        else
          let o := s.output n
          keep ((s.setOutput n { o with denied := (0x3FF, tx, y / 32) :: o.denied }).setBit (0x2500 + n) 6 3 true) fill

/-! ## Zones, gain, output code (R263–R265, R280) -/

/-- Luma of a blended pixel (R263). -/
def zoneY (p : LPix) : Nat := (6966 * p.r + 23436 * p.g + 2366 * p.b + 16384) >>> 15

/-- The zone of a raster position: the column (row) c with floor(c·w/cols) ≤ x < floor((c+1)·w/cols). -/
def zonePos (w cols x : Nat) : Nat := ((List.range cols).find? (fun c => decide (x < (c + 1) * w / cols))).getD 0

def Zone.add (z : Zone) (p : LPix) : Zone :=
  let y := zoneY p
  { n := z.n + 1, r := z.r + p.r, g := z.g + p.g, b := z.b + p.b, y := z.y + y, max := Nat.max z.max y }

/-- Gather a segment's blended pixels into the zones of the frame. -/
def gatherZones (grid w h y : Nat) : Nat → List LPix → Tab Zone → Tab Zone
  | _, [], z => z
  | x, p :: t, z =>
    let cols := bits grid 15 8; let rows := bits grid 7 0
    let k := zonePos h rows y * cols + zonePos w cols x
    gatherZones grid w h y (x + 1) t (tabSet {} z k ((tabGet {} z k).add p))

/-- The gain of R264 on a component. -/
def gainMul (g v : Nat) : Nat := min 0xFFFF ((v * g + 0x4000) >>> 15)

/-- The dither matrix (R280). -/
def ditherAt (y x : Nat) : Nat := ([0, 8, 2, 10, 12, 4, 14, 6, 3, 11, 1, 9, 15, 7, 13, 5] : List Nat).getD (4 * (y % 4) + x % 4) 0

/-- Reduce a 16-bit code to b bits (R280); `f` is the frame count mod 4. -/
def reduce (b dither y x f v : Nat) : Nat :=
  let t := if dither = 0 then 2 ^ (15 - b) else (2 * ditherAt (y + f) (x + f) + 1) * 2 ^ (16 - b) / 32
  min (2 ^ b - 1) ((v + t) >>> (16 - b))

/-- The four pair words of a pixel on an LVDS link, slot 6 the most significant bit (R274; log entry 21 on the names R7 and
R8 of the table). -/
def lvdsWords (order r g b : Nat) (hpos vpos : Bool) : List Nat :=
  let bit := fun (v i : Nat) => b2n (bitAt v i)
  let word := fun (l : List Nat) => l.foldl (fun a x => 2 * a + x) 0
  let vs := b2n (!vpos); let hs := b2n (!hpos)
  if order = 0 then
    [word [bit g 0, bit r 5, bit r 4, bit r 3, bit r 2, bit r 1, bit r 0],
     word [bit b 1, bit b 0, bit g 5, bit g 4, bit g 3, bit g 2, bit g 1],
     word [1, vs, hs, bit b 5, bit b 4, bit b 3, bit b 2],
     word [0, bit b 7, bit b 6, bit g 7, bit g 6, bit r 7, bit r 6]]
  else
    [word [bit g 2, bit r 7, bit r 6, bit r 5, bit r 4, bit r 3, bit r 2],
     word [bit b 3, bit b 2, bit g 7, bit g 6, bit g 5, bit g 4, bit g 3],
     word [1, vs, hs, bit b 7, bit b 6, bit b 5, bit b 4],
     word [0, bit b 1, bit b 0, bit g 1, bit g 0, bit r 1, bit r 0]]

/-- The bit depth in use: 8 in LVDS modes, else that of the trained link; 0 while no video stream is sent. -/
def State.depthOf (s : State) (n : Nat) : Nat :=
  if 3 ≤ s.getN (0x2200 + n) 1 then 8
  else if s.getBit (0x2200 + n) 4 5 || !s.getBit (0x2200 + n) 4 3 then 0 else bits (s.getN (0x2200 + n) 0x15) 23 16

/-- The post-blend LUT and the transmitted form of a segment (R265, R274, R280). -/
def State.sendSeg (s : State) (n y tx : Nat) (safe : Bool) (ps : List LPix) : List (List Nat) :=
  let o := s.output n
  let depth := s.depthOf n
  let lut := if safe then none else s.libRef (s.getN (0x2200 + n) 8) 3
  let g := if safe then 0x8000 else s.getN (0x2500 + n) 0x0C
  let dith := s.getN (0x2200 + n) 0x0E
  let out := fun (x c v : Nat) =>
    let v := if g = 0x8000 then v else gainMul g v
    reduce depth dith y x (o.frames % 4) (match lut with
      | some l => lutMap l c v
      | none => postBuiltin v)
  if depth = 0 then []
  else (List.range ps.length).map (fun i =>
    let p := ps.getD i { r := 0, g := 0, b := 0, a := 0 }
    let x := 64 * tx + i
    let (r, gg, b) := (out x 0 p.r, out x 1 p.g, out x 2 p.b)
    if 3 ≤ s.getN (0x2200 + n) 1 then lvdsWords (s.getN (0x2200 + n) 0x11) r gg b o.tim.hpos o.tim.vpos else [r, gg, b])

/-- The pixels of a segment on LVDS link A, or B: in dual link the even ones go on A and the odd ones on B (R274). Every other mode
sends all on its one link. -/
def onLink (mode : Nat) (b : Bool) (l : List (List Nat)) : List (List Nat) :=
  if mode = 3 then (List.range ((l.length + b2n (!b)) / 2)).map (fun i => l.getD (2 * i + b2n b) []) else if b then [] else l

/-- SEGMENT_TRANSMIT (R284, R256): segment tx of active line y is composed and sent; `late` names the layers whose data has
not arrived (0x3FF the safe-scene path). -/
def execSegmentTransmit (n : Fin 48) (y tx : Nat) (late : List Nat) (at_ : Nat) (s : State) : Host.Outcome State Fault Refusal :=
  let o := s.output n
  let w := o.tim.w; let h := o.tim.h
  if !s.power.run ∨ o.on = false ∨ h ≤ y ∨ w ≤ 64 * tx ∨ o.retime.isSome ∨ s.getBit (0x2200 + n) 4 8 then .next s
  else
    let s := s.atTime at_
    let s := if o.segY = y then s else s.setOutput n { o with segY := y, prev := o.segs, segs := [] }
    let safe := decide (0 < o.fallback)
    let (s, ps, out) := s.within n (fun s =>
      let (s, ps) :=
        if safe then s.safeSeg n w y tx (late.contains 0x3FF)
        else s.stack n w h y tx late (s.layersOf n) (List.replicate (min w (64 * tx + 64) - 64 * tx) (bgPix (s.getN (0x2200 + n) 9)))
      (s, ps, s.sendSeg n y tx safe ps))
    let o := s.output n
    let z := gatherZones (s.getN (0x2500 + n) 2) w h y (64 * tx) ps o.zones
    let mode := s.getN (0x2200 + n) 1
    .next (s.setOutput n { o with zones := z, sent := onLink mode false out, sentB := onLink mode true out })

/-! ## Statistics and status (R262, R263) -/

/-- CO_ZONE_STATS of a complete frame (R263). -/
def State.zoneStats (s : State) (n : Nat) : List Byte :=
  let o := s.output n
  let grid := s.getN (0x2500 + n) 2
  let cols := bits grid 15 8; let rows := bits grid 7 0
  toLE 4 (o.frames % 2 ^ 32) ++ [BitVec.ofNat 8 cols, BitVec.ofNat 8 rows] ++ zeros 2 ++ toLE 8 o.start ++
  (List.range (cols * rows)).flatMap (fun k =>
    let z := tabGet {} o.zones k
    let m := fun (v : Nat) => if z.n = 0 then 0 else roundDiv v z.n
    toLE 2 (m z.r) ++ toLE 2 (m z.g) ++ toLE 2 (m z.b) ++ toLE 2 (m z.y) ++ toLE 2 z.max ++ zeros 2)

/-- The tiles of a raster. -/
def tilesOf (w h : Nat) : List (Nat × Nat) := (List.range (tilesY h)).flatMap (fun ty => (List.range (tilesX w)).map (fun tx => (tx, ty)))

/-- The source positions that destination positions [d0, d1) of an axis need, as first and one past the last. -/
def needSpan (axis c0 wc wd d0 d1 : Nat) : Nat × Nat :=
  if d1 ≤ d0 then (0, 0)
  else
    let a := (tapsOf axis c0 wc wd d0).1; let b := (tapsOf axis c0 wc wd (d1 - 1)).1
    (a.foldl min (a.headD 0), b.foldl max 0 + 1)

/-- Bytes a layer fetches for the given tiles (R258, R262): each pixel that at least one of them needs, once, of each frame of a
blended pair (R233). -/
def State.fetchBytes (s : State) (n : Nat) (l : Layer) (w h : Nat) (ts : List (Nat × Nat)) : Nat :=
  let (px, py) := s.lPos l; let (dw, dh) := s.lSize l
  let rel := fun (t : Nat × Nat) =>
    let (x0, x1, y0, y1) := tileRect w h t.1 t.2
    ((clampInt 0 dw (Int.ofNat x0 - px)).toNat, (clampInt 0 dw (Int.ofNat x1 - px)).toNat,
     (clampInt 0 dh (Int.ofNat y0 - py)).toNat, (clampInt 0 dh (Int.ofNat y1 - py)).toNat)
  if l.gl then
    ts.foldl (fun a t =>
      let (x0, x1, y0, y1) := rel t
      a + (y1 - y0) * (ceilDiv (x1 * bppOf (s.lFormat l)) 8 - x0 * bppOf (s.lFormat l) / 8)) 0
  else
    let rd := s.readerFor n l.e
    match rd.b with
    | none => 0
    | some f =>
      let (cx, cy, cw, ch) := cropOf (s.getN l.idx 3) f.w f.h
      let need := ts.map (fun t =>
        let (x0, x1, y0, y1) := rel t
        (needSpan 0 cx cw dw x0 x1, needSpan 1 cy ch dh y0 y1))
      (if rd.a.isSome then 16 else 8) * ((List.range ch).foldl (fun a j =>
        let row := need.filter (fun q => inRange (cy + j) q.2.1 (q.2.2 - q.2.1))
        a + ((List.range cw).filter (fun i => row.any (fun q => inRange (cx + i) q.1.1 (q.1.2 - q.1.1)))).length) 0)

/-- The fetch reports of a composition over its visible layers (R262): CO_LAYER_TILES to CO_FETCH_BYTES_FULL. -/
def State.fetchSums (s : State) (n : Nat) : List Nat :=
  let o := s.output n
  let w := o.tim.w; let h := o.tim.h
  let ls := (s.layersOf n).filter s.lVisible
  let per := (List.range ls.length).map (fun i =>
    let l := ls.getD i { gl := false, e := 0 }
    let above := ls.drop (i + 1)
    let ts := (tilesOf w h).filter (fun t => s.touches l w h t.1 t.2)
    (l, ts, ts.filter (fun t => !s.skips n above w h t.1 t.2)))
  let sum := fun (f : Layer × List (Nat × Nat) × List (Nat × Nat) → Nat) => per.foldl (fun a p => a + f p) 0
  [sum (·.2.1.length), sum (·.2.2.length), sum (fun p => s.fetchBytes n p.1 w h p.2.2), sum (fun p => s.fetchBytes n p.1 w h p.2.1)]

/-- The reports of the frame that is complete, in the configuration it was composed in (R262). -/
def State.fetchReport (s : State) (n : Nat) : State :=
  let q := s.within n (fun s => (s, s.fetchSums n))
  (List.range 4).foldl (fun s i => s.setN (0x2500 + n) (8 + i) (q.2.getD i 0)) s

/-- The static bits of the layer statuses of an output: ASSIGNED, OFF_RASTER, HIDDEN, LIB_DEFAULTED. -/
def State.layerBits (s : State) (n : Nat) : State :=
  let w := fmtW (s.getN (0x2200 + n) 2); let h := fmtH (s.getN (0x2200 + n) 2)
  let ls := s.layersOf n
  (List.range ls.length).foldl (fun s i =>
    let l := ls.getD i { gl := false, e := 0 }
    let ts := (tilesOf w h).filter (fun t => s.touches l w h t.1 t.2)
    let hid := !ts.isEmpty && ts.all (fun t => s.skips n (ls.drop (i + 1)) w h t.1 t.2)
    let def_ := if l.gl then s.libDefaulted (s.getN l.idx 0x0C) 2 || (s.lFormat l == 5 && s.libDefaulted (s.getN l.idx 0x0A) 4)
      else s.libDefaulted (s.getN l.idx 9) 1 || s.libDefaulted (s.getN l.idx 0x0A) 2
    (((s.lStatus l 0 true).lStatus l 4 ts.isEmpty).lStatus l 5 hid).lStatus l 6 def_) s

/-- The statuses of an output's layers and LIB_DEFAULTED of its composition, in the configuration it uses (R246). -/
def State.layerStatus (s : State) (n : Nat) : State :=
  (s.within n (fun s => ((s.layerBits n).setBit (0x2500 + n) 6 1 (s.libDefaulted (s.getN (0x2200 + n) 8) 3), ()))).1

/-- The layers that an output shows, bottom first. -/
def State.shownLayers (s : State) (n : Nat) : List Layer := (s.lay (s.output n).stays).layersOf n

/-- The gain of R264 at a frame start, from the delivered level of the lamp channel. -/
def State.takeGain (s : State) (n : Nat) : State :=
  let c := s.getN (0x2500 + n) 3
  if c = 0xFF then (s.setN (0x2500 + n) 0x0C 0x8000).setBit (0x2500 + n) 6 2 false
  else
    let d := s.getN (0x2800 + c) 0x13
    let mx := s.getN (0x2500 + n) 5
    let g := if d = 0 then mx else 32768 * s.getN (0x2500 + n) 4 / d
    let g := min mx (max 0x4000 g)
    (s.setN (0x2500 + n) 0x0C g).setBit (0x2500 + n) 6 2 (g == mx || g == 0x4000)

/-- Whether output n is a gang member other than the leader: its own objects are ignored (R272). -/
def State.inGang (s : State) (n : Nat) : Bool := n % 4 != 0 && s.getN (0x2200 + n / 4 * 4) 3 == 1

/-- LIB_USERS of every entry, from the configuration in use. -/
def State.libUsers (s : State) : State :=
  let refs := (allLayers.filter (fun l => s.lOut l != 0xFF)).flatMap (fun l =>
      if l.gl then [s.getN l.idx 0x0C] ++ (if s.lFormat l = 5 then [s.getN l.idx 0x0A] else [])
      else [s.getN l.idx 9, s.getN l.idx 0x0A]) ++
    ((List.range 48).filter (fun n => !s.inGang n)).map (fun n => s.getN (0x2200 + n) 8)
  (List.range 224).foldl (fun s k => s.setN (0x2600 + k) 3 ((refs.filter (· == k)).length)) s

end Sys2Proof.Machine
end

