-- ==== Sys2Proof/Machine/Fixed.lean ====
section
/-! DEFINITION. Real functions in fixed point with 64 fraction bits: the cosine, logarithm, exponential and cube root that
chapters 10 and 11 use. Series are cut where their terms fall below 2^-64, so that a result rounded to an object's width
is the rounded exact value save within 2^-50 of a tie (log entry 23). -/
namespace Sys2Proof.Machine

/-- One in fixed point. -/
def fxOne : Int := 18446744073709551616

def fxMul (a b : Int) : Int := a * b / fxOne
def fxDiv (a b : Int) : Int := a * fxOne / b
def fxOf (n : Int) : Int := n * fxOne
/-- Rounded to nearest. -/
def fxRound (a : Int) : Int := (a + fxOne / 2) / fxOne

/-- π in fixed point. -/
def fxPi : Int := 57952155664616982739
/-- ln 2 in fixed point. -/
def fxLn2 : Int := 12786308645202655660

/-- The sum of an alternating even power series: term_k = −term_{k−1}·x²/((2k−1)(2k)). -/
def cosTail (x2 : Int) : Nat → Nat → Int → Int
  | 0, _, _ => 0
  | fuel + 1, k, t =>
    let t' := - fxMul t x2 / Int.ofNat ((2 * k - 1) * (2 * k))
    t' + cosTail x2 fuel (k + 1) t'

/-- cos(π·u) for u in [0, 1]. -/
def fxCosPi (u : Int) : Int :=
  let x := fxMul fxPi u
  fxOne + cosTail (fxMul x x) 20 1 fxOne

/-- Σ z^(2k+1)/(2k+1) from k = 0. -/
def atanhSum (z2 : Int) : Nat → Nat → Int → Int
  | 0, _, _ => 0
  | fuel + 1, k, p => p / Int.ofNat (2 * k + 1) + atanhSum z2 fuel (k + 1) (fxMul p z2)

/-- Natural logarithm of a positive fixed-point number. -/
def fxLn (x : Int) : Int :=
  let e := Int.ofNat (Nat.log2 x.toNat) - 64
  let m := if 0 ≤ e then x / (2 ^ e.toNat : Int) else x * (2 ^ (-e).toNat : Int)
  let z := fxDiv (m - fxOne) (m + fxOne)
  e * fxLn2 + 2 * atanhSum (fxMul z z) 24 0 z

/-- Σ x^k/k! from k = 0. -/
def expSum (x : Int) : Nat → Nat → Int → Int
  | 0, _, _ => 0
  | fuel + 1, k, t => t + expSum x fuel (k + 1) (fxMul t x / Int.ofNat (k + 1))

/-- The exponential. -/
def fxExp (x : Int) : Int :=
  let k := x / fxLn2
  let r := expSum (x - k * fxLn2) 28 0 fxOne
  if 0 ≤ k then r * (2 ^ k.toNat : Int) else r / (2 ^ (-k).toNat : Int)

/-- The cube root of a fixed-point number in [0, 8). -/
def fxCbrt (x : Int) : Int := Int.ofNat (rootFrom 3 1 (x.toNat * 2 ^ 128) 66 0)

end Sys2Proof.Machine
end

