-- ==== Sys2Proof/Machine/Audio.lean ====
section
/-! DEFINITION. Audio (chapter 10): sources and their FIFOs, non-audio, the matrix with its ramps and delay lines,
serial audio ports, memory rings, rate measurement, embedding. -/
namespace Sys2Proof.Machine

/-! ## Accessors -/

def State.feed (s : State) (k : Nat) : Feed := tabGet {} s.audio.feeds k
def State.setFeed (s : State) (k : Nat) (x : Feed) : State := { s with audio := { s.audio with feeds := tabSet {} s.audio.feeds k x } }
def State.dest (s : State) (k : Nat) : Dest := tabGet {} s.audio.dests k
def State.setDest (s : State) (k : Nat) (x : Dest) : State := { s with audio := { s.audio with dests := tabSet {} s.audio.dests k x } }
def State.src (s : State) (k : Nat) : SrcStat := tabGet {} s.audio.srcs k
def State.setSrc (s : State) (k : Nat) (x : SrcStat) : State := { s with audio := { s.audio with srcs := tabSet {} s.audio.srcs k x } }
def State.sap (s : State) (k : Nat) : Sap := tabGet {} s.audio.saps k
def State.setSap (s : State) (k : Nat) (x : Sap) : State := { s with audio := { s.audio with saps := tabSet {} s.audio.saps k x } }
def State.ring (s : State) (k : Nat) : Ring := tabGet {} s.audio.rings k
def State.setRing (s : State) (k : Nat) (x : Ring) : State := { s with audio := { s.audio with rings := tabSet {} s.audio.rings k x } }

/-- Rates by code (Audio rate codes). -/
def audioRate (c : Nat) : Nat := [0, 8000, 11025, 16000, 22050, 32000, 44100, 48000, 88200, 96000, 176400, 192000].getD c 0

/-- The matrix rate (R290). -/
def State.matrixRate (s : State) : Nat := if s.getN 0x2740 1 = 1 then 96000 else 48000

/-- The rate code of the matrix rate. -/
def State.matrixCode (s : State) : Nat := if s.getN 0x2740 1 = 1 then 9 else 7

/-- The number j of the first sample period of rate f that begins at or after TBC `e` on the grid of R290: the smallest j with
floor(j·27e6/f) ≥ e - A, that is j ≥ (e - A)·f/27e6. -/
def sampleIndex (a f e : Nat) : Int := -((-((Int.ofNat e - Int.ofNat a) * Int.ofNat f)) / 27000000)

/-- The TBC at which sample period j of rate f begins (R290). -/
def sampleTime (a f : Nat) (j : Int) : Nat := (Int.ofNat a + j * 27000000 / Int.ofNat (max 1 f)).toNat

/-- The first sample period of rate f that begins at or after TBC `e`: its TBC. -/
def samplePeriodAt (a f e : Nat) : Nat := sampleTime a f (sampleIndex a f e)

/-- How many sample periods of rate f begin after TBC `lo` and up to `hi`. -/
def samplesBetween (a f lo hi : Nat) : Nat := (sampleIndex a f (hi + 1) - sampleIndex a f (lo + 1)).toNat

/-- An entry of AU_SOURCES (R292). -/
def State.srcEntry (s : State) (k : Nat) : Nat := leAt (s.getB 0x2741 0) (4 * k) 4
def srcKind (e : Nat) : Nat := bits e 31 28
def srcInst (e : Nat) : Nat := bits e 23 16
def srcChan (e : Nat) : Nat := bits e 15 8
def srcAsrc (e : Nat) : Bool := bitAt e 0

/-- The feed a source takes its samples from; none for a ring channel or an unused entry. -/
def srcFeed (e : Nat) : Option Nat :=
  match srcKind e with
  | 1 => some (srcInst e)
  | 2 => some (0x20 + srcInst e)
  | 3 => some (0x40 + srcInst e)
  | _ => none

/-- 24-bit two's complement held to its range. -/
def clip24 (v : Int) : Int := clampInt (-0x800000) 0x7FFFFF v

/-! ## Presence and non-audio (R293–R296) -/

/-- Channels carried now by a feed (IN_AUDIO_PRESENT [15:0]). -/
def State.carried (s : State) (k : Nat) : Nat :=
  let on := if k < 0x20 then s.getBit (0x2100 + k) 2 0 && s.getBit (0x2100 + k) 2 1
    else if k < 0x40 then s.getBit (0x2140 + k - 0x20) 7 0 && !s.getBit (0x2140 + k - 0x20) 7 2
    else s.getBit (0x2700 + k - 0x40) 0x12 0
  if !on then 0
  else if 0x40 ≤ k then s.getN (0x2700 + k - 0x40) 5 % 2 ^ (s.getN (0x2700 + k - 0x40) 3) else (s.feed k).carried

/-- Whether a channel of a feed is muted as non-audio. -/
def Feed.muted (f : Feed) (c : Nat) : Bool := f.mutes.any (fun m => m.1 == c / 2)

/-- IN_AUDIO_PRESENT (Sources). -/
def State.audioPresent (s : State) (k : Nat) : Nat :=
  let f := s.feed k
  s.carried k ||| (((List.range 16).foldl (fun a c => if f.muted c then a ||| (1 <<< c) else a) 0) <<< 16)

/-- Whether a source is present. -/
def State.srcPresent (s : State) (e : Nat) : Bool :=
  match srcFeed e with
  | some k => bitAt (s.carried k) (srcChan e)
  | none =>
    if srcKind e = 4 then
      let r := srcInst e
      let m := s.getN (0x2748 + r) 1
      (m == 1 && s.getBit (0x2748 + r) 8 0) || (m == 2 && s.getBit (0x2748 + r) 8 1 && (s.ring r).stop.isNone)
    else false

/-- Whether a source is muted as non-audio. -/
def State.srcMuted (s : State) (e : Nat) : Bool :=
  match srcFeed e with
  | some k => (s.feed k).muted (srcChan e)
  | none => false

/-- The pairs of a frame that carry the IEC 61937 preamble Pa, Pb (R296). -/
def preamble (l : List Int) (p : Nat) : Bool :=
  bits (ofInt 24 (l.getD (2 * p) 0)) 23 8 == 0xF872 && bits (ofInt 24 (l.getD (2 * p + 1) 0)) 23 8 == 0x4E1F

/-- A frame comes in: pairs found non-audio are muted and their samples replaced with zero from this frame on (R296). -/
def State.nonAudio (s : State) (k : Nat) (l : List Int) (flags : Nat) : State × List Int :=
  let hit := (List.range 8).filter (fun p => bitAt flags p || preamble l p)
  let f := s.feed k
  let kept := f.mutes.filter (fun m => !hit.contains m.1)
  let f := { f with mutes := kept ++ hit.map (fun p => (p, s.tbc)) }
  (s.setFeed k f, (List.range l.length).map (fun c => if f.muted c then 0 else l.getD c 0))

/-- Whether a feed keeps the house clock: a tunnel, or a serial port that receives as master at the matrix rate; it never slips (R297). -/
def State.feedLocked (s : State) (k : Nat) : Bool :=
  if k < 0x20 then false
  else if k < 0x40 then true
  else
    let m := s.getN (0x2700 + k - 0x40) 1
    (m == 2 || m == 4) && audioRate (s.getN (0x2700 + k - 0x40) 0x0F) == s.matrixRate

/-- Count a slip for every direct source that a feed serves (R297). -/
def State.slip (s : State) (k : Nat) : State :=
  (List.range 512).foldl (fun s j =>
    let e := s.srcEntry j
    if srcFeed e = some k ∧ srcAsrc e = false then
      let x := s.src j
      s.setSrc j { x with slips := satAdd 0xFFFF x.slips 1, slipAt := some s.tbc }
    else s) s

/-- Whether a direct source uses a feed. -/
def State.feedDirect (s : State) (k : Nat) : Bool :=
  (List.range 512).any (fun j => let e := s.srcEntry j; decide (srcFeed e = some k) && !srcAsrc e)

/-- A whole frame enters a feed's FIFO (R297, R313). -/
def State.feedPush (s : State) (k : Nat) (l : List Int) : State :=
  let f := s.feed k
  if s.feedDirect k = false then s.setFeed k { f with last := l }
  else if f.fifo.length < 64 then s.setFeed k { f with fifo := f.fifo ++ [l] }
  else if s.feedLocked k then s.setFeed k { f with fifo := f.fifo.drop 1 ++ [l] }
  else if 0x40 ≤ k then (s.count (0x2700 + k - 0x40) 9).slip k
  else (s.setFeed k { f with fifo := f.fifo.drop 1 ++ [l] }).slip k

/-- The matrix reads a feed at a sample period (R297, R313). -/
def State.feedRead (s : State) (k : Nat) : State :=
  let f := s.feed k
  if s.carried k = 0 ∨ s.feedDirect k = false then s
  else if !f.going && decide (f.fifo.length < 32) then s
  else match f.fifo with
    | l :: t => s.setFeed k { f with fifo := t, last := l, going := true }
    | [] =>
      let s := s.setFeed k { f with going := true }
      if s.feedLocked k then s else
      let s := s.slip k
      if 0x40 ≤ k then s.count (0x2700 + k - 0x40) 0x0D else s

/-- A sample frame for a tunnel that carries audio: at most VIN_AUDIO_CHANNELS channels, and none of a source that exceeds the
reservation (R177, R180). -/
def audioItem (fm : Nat) (carried : BitVec 16) (samples : List Int) (nonAudio : BitVec 8) (k : TunnelSrc) : Option TunnelItem :=
  if k.kind = 1 ∨ (k.kind = 0 ∧ overReserve k.sampling fm k.reserve) then none
  else some (.audio (carried &&& BitVec.ofNat 16 (2 ^ k.ch - 1)) samples nonAudio)

/-- The channels taken from a stream (R293, R294): on SDI (`rate` below 4) those of the groups at 48, 44.1 or 32 kHz, four a group; on DP
channels 0–7. -/
def deEmbedded (rate : Nat) (form : AudioForm) : BitVec 16 :=
  if rate = 4 then form.channels &&& 0xFF#16
  else (List.range 4).foldl (fun m g => if [5, 6, 7].contains (form.groups.getD g 0) then m else m &&& ~~~(BitVec.ofNat 16 (0xF <<< (4 * g)))) form.channels

/-- The pairs that a stream declares non-audio: those whose channel status says so (R296), and all of a DP stream that is not LPCM (R294). -/
def declaredNonAudio (rate : Nat) (form : AudioForm) (nonAudio : BitVec 8) : BitVec 8 :=
  if rate = 4 ∧ form.lpcm = false then 0x0F#8 else nonAudio

/-- AUDIO_SAMPLE_FRAME_ARRIVAL (R177, R293, R294, R296, R297): a sample frame of an input port with what its stream says of it, on 3G
level B-DL of virtual link 1. -/
def execAudioSampleFrameArrival (n : Fin 32) (form : AudioForm) (samples : List Int) (nonAudio : BitVec 8)
    (at_ : Nat) (s : State) : Host.Outcome State Fault Refusal :=
  if !s.power.run ∨ s.dpMember n then .next s
  else
    let s := s.atTime at_
    let k := n.val
    let most := deEmbedded (s.input n).rate form
    let flags := declaredNonAudio (s.input n).rate form nonAudio
    let s := s.setFeed k { s.feed k with carried := most.toNat }
    let l := (List.range 16).map (fun c => if bitAt most.toNat c then clip24 (samples.getD c 0) else 0)
    let (s, l) := s.nonAudio k l flags.toNat
    .next ((s.feedPush k l).tunnelOut n (audioItem (s.inFormat n) most samples flags))

/-- NONAUDIO_HOLD_EXPIRY (R296): neither condition has held for AU_NONAUDIO_HOLD_MS, and the pair is audio again. -/
def execNonaudioHoldExpiry (feed : Fin 80) (pair : Fin 8) (s : State) : Host.Outcome State Fault Refusal :=
  let f := s.feed feed
  match f.mutes.find? (fun m => m.1 == pair.val) with
  | none => .next s
  | some m =>
    let s := s.atTime (m.2 + s.getN 0x2740 4 * Config.ticksPerMs)
    .next (s.setFeed feed { f with mutes := f.mutes.filter (fun q => !(q.1 == pair.val)) })

/-- ASRC_LOCK (R299): the ASRC channel of a source locks, or its input rate has jumped and it relocks. -/
def execAsrcLock (k : Fin 512) (locks : Bool) (at_ : Nat) (s : State) : Host.Outcome State Fault Refusal :=
  if !s.power.run ∨ srcAsrc (s.srcEntry k) = false then .next s
  else .next ((s.atTime at_).setSrc k { s.src k with locked := locks })

/-! ## Ramps (R321, R322) -/

/-- Gain of sample i of a ramp over n samples, in or out, as a 24-bit fraction. -/
def gainAt (up : Bool) (shape n i : Nat) : Nat :=
  let g := if shape = 0 then roundDiv ((i + 1) * 2 ^ 24) (max 1 n)
    else
      let c := fxCosPi (fxDiv (Int.ofNat (i + 1)) (Int.ofNat (max 1 n)))
      (fxRound ((fxOne - c) / 2 * 2 ^ 24)).toNat
  if up then g else 2 ^ 24 - g

/-- The ramp a destination begins at gain `g`: from the first index that does not fall below it, or does not exceed it (R322). -/
def Ramp.begin (up : Bool) (shape n g : Nat) : Ramp :=
  let meets := fun (i : Nat) => if up then decide (g ≤ gainAt up shape n i) else decide (gainAt up shape n i ≤ g)
  { up := up, i := ((List.range n).find? meets).getD (n - 1), len := n, shape := shape }

/-- One sample of a destination's gain: `want` is up or down, `cut` the non-audio mute (R296, R321, R322). A ramp in progress keeps the
length and the shape it began with. -/
def Dest.step (d : Dest) (shape n : Nat) (want cut : Bool) : Dest :=
  let full := if want then 2 ^ 24 else 0
  if cut then { d with gain := 0, ramp := none }
  else if d.gain = full then { d with ramp := none }
  else
    let r := match d.ramp with
      | some r => if r.up = want then r else Ramp.begin want shape n d.gain
      | none => Ramp.begin want shape n d.gain
    if r.len = 0 then { d with gain := full, ramp := none }
    else { d with gain := gainAt want r.shape r.len r.i, ramp := if r.len ≤ r.i + 1 then none else some { r with i := r.i + 1 } }

/-! ## Destinations (R300–R305): 8n + c embedder, 384 + 16n + s SAP slot, 640 + 16r + c ring channel -/

/-- Index and subindex of a destination's route word (R301). -/
def routeObj (d : Nat) : Nat × Nat :=
  if d < 384 then (0x2760 + d / 64, 1 + d % 64)
  else if d < 640 then (0x2700 + (d - 384) / 16, 0x14 + (d - 384) % 16)
  else (0x2748 + (d - 640) / 16, 0x0D + (d - 640) % 16)

def destCount : Nat := 896

/-- The route word of a destination. A ring channel counts only in routed mode and below AR_CHANNELS. -/
def State.route (s : State) (d : Nat) : Nat :=
  if 640 ≤ d ∧ (s.getN (0x2748 + (d - 640) / 16) 1 ≠ 3 ∨ s.getN (0x2748 + (d - 640) / 16) 4 ≤ (d - 640) % 16) then 0x3FF
  else s.getN (routeObj d).1 (routeObj d).2

def routeSrc (r : Nat) : Nat := bits r 9 0
def routeMute (r : Nat) : Bool := bitAt r 15
def routeDelay (r : Nat) : Nat := bits r 31 16
/-- Whether a destination is enabled (R300). -/
def State.destOn (s : State) (d : Nat) : Bool := routeSrc (s.route d) != 0x3FF

/-- The tag that owns a destination's route word (R301). -/
def State.destTag (s : State) (d : Nat) : Nat :=
  if d < 384 then s.getN (0x2200 + d / 8) 7
  else if d < 640 then s.getN (0x2700 + (d - 384) / 16) 0x0C else s.getN (0x2748 + (d - 640) / 16) 0x0C

/-- The ramp time of a destination in ms. -/
def State.destRampMs (s : State) (d : Nat) : Nat := if 384 ≤ d ∧ d < 640 then s.getN (0x2700 + (d - 384) / 16) 0x0B else s.getN 0x2740 3

/-- Bytes of a destination's delay line (R304). -/
def State.delayBytes (s : State) (d : Nat) : Nat := if s.destOn d then ceilDiv (4 * routeDelay (s.route d)) 64 * 64 else 0

/-- Its address, lines allocated in ascending destination order. -/
def State.delayAddr (s : State) (d : Nat) : Nat := s.getN 0x2740 5 + ((List.range d).map s.delayBytes).foldl (· + ·) 0

/-- The present sample of source number k: zero from an ASRC channel that is not locked, once the destination has ramped out (`heard`
is false; R299). -/
def State.srcSample (s : State) (k : Nat) (heard : Bool) : Int :=
  let e := s.srcEntry k
  if srcAsrc e then if (s.src k).locked || heard then (Config.asrcSample k s.seed).toInt else 0
  else match srcFeed e with
    | some f => (s.feed f).last.getD (srcChan e) 0
    | none => (s.ring (srcInst e)).last.getD (srcChan e) 0

/-- One sample of a destination: the route's change (R303), the delay line, the gain. -/
def State.destSample (s : State) (d : Nat) : State × Int :=
  let x := s.dest d
  let r := s.route d
  let shape := s.getN 0x2740 2
  let n := roundDiv (s.destRampMs d * s.matrixRate) 1000
  let changed := routeSrc r != routeSrc x.route || routeDelay r != routeDelay x.route
  -- ramp out the old source first; then take the new route with an empty line
  let x := if changed && x.gain == 0 then { x with route := r, line := [], fill := routeDelay r, ramp := none }
    else if changed then x else { x with route := r }
  let still := changed && x.gain != 0
  let e := s.srcEntry (routeSrc x.route)
  let on := routeSrc x.route != 0x3FF
  if !on && !still then (s.setDest d { x with gain := 0 }, 0)
  else
    let raw := if on then s.srcSample (routeSrc x.route) (x.gain != 0) else 0
    let dl := routeDelay x.route
    -- the line is kept in memory through M10; a refused or failed access repeats the last sample (R318, R474)
    let (s, bad) :=
      if dl = 0 then (s, false)
      else
        let a := s.delayAddr d
        let (s, w) := s.xbWrite 10 (s.destTag d) a (toLE 4 (ofInt 32 raw))
        let (s, q) := s.xbRead 10 (s.destTag d) a 4
        (s, w.code != 0 || q.code != 0)
    let line := if dl = 0 then [] else (raw :: x.line).take dl
    let out := if bad then x.last else if dl = 0 then raw else if x.line.length < dl then 0 else x.line.getD (dl - 1) 0
    let up := on && !still && x.fill == 0 && s.srcPresent e && !routeMute r && (!srcAsrc e || (s.src (routeSrc x.route)).locked)
    let y := { x with line := line, fill := x.fill - 1, last := out }
    let y := y.step shape n up (s.srcMuted e)
    (s.setDest d y, (out * Int.ofNat y.gain + 2 ^ 23) / 2 ^ 24)

/-- Every destination's sample in order, as (destination, sample) pairs of the enabled ones. -/
def State.destAll (s : State) : List Nat → State × List (Nat × Int)
  | [] => (s, [])
  | d :: t =>
    if s.destOn d || (s.dest d).gain != 0 then
      let (s, v) := s.destSample d
      let (s, l) := s.destAll t
      (s, (d, v) :: l)
    -- a disabled destination keeps no route: enabled again, it starts from an empty line (R303)
    else if (s.dest d).route = 0x3FF then s.destAll t else (s.setDest d {}).destAll t

/-- The sample a destination gave, 0 where it is not enabled. -/
def sampleOf (l : List (Nat × Int)) (d : Nat) : Int := ((l.find? (fun p => p.1 == d)).map (·.2)).getD 0

/-! ## Memory rings (R316–R320) -/

/-- AR_CHANNELS: the count of admitted slots in mode 4 (R320). -/
def State.ringChannels (s : State) (r : Nat) : Nat :=
  if s.getN (0x2748 + r) 1 = 4 then ((List.range 16).filter (fun i => bitAt (s.getN (0x2700 + s.getN (0x2748 + r) 7) 5) i)).length
  else s.getN (0x2748 + r) 4

def State.frameBytes (s : State) (r : Nat) : Nat := s.ringChannels r * (s.getN (0x2748 + r) 5 / 8)
/-- F, the frames the ring holds. -/
def State.ringFrames (s : State) (r : Nat) : Nat := s.getN (0x2748 + r) 3 / max 1 (s.frameBytes r)
def State.ringTag (s : State) (r : Nat) : Nat := s.getN (0x2748 + r) 0x0C

/-- A sample's bytes at AR_SAMPLE_BITS: rounded to 16 bits, packed 24, or in the top 24 of 32. -/
def sampleBytes (b : Nat) (v : Int) : List Byte :=
  if b = 16 then toLE 2 (ofInt 16 (min 0x7FFF ((v + 0x80) / 256)))
  else if b = 24 then toLE 3 (ofInt 24 v) else toLE 4 (ofInt 24 v * 256)

/-- A sample from its bytes. -/
def sampleFrom (b : Nat) (l : List Byte) : Int :=
  if b = 16 then toInt 16 (ofLE l) * 256 else if b = 24 then toInt 24 (ofLE l) else toInt 24 (ofLE l / 256)

/-- A frame's samples from its bytes. -/
def frameFrom (b : Nat) (ch : Nat) (l : List Byte) : List Int := (List.range ch).map (fun c => sampleFrom b ((l.drop (c * (b / 8))).take (b / 8)))

/-- The rate of a playback ring's frames. -/
def State.playRate (s : State) (r : Nat) : Nat := audioRate (s.getN (0x2748 + r) 6)

/-- A playback ring gives one frame; a stream without one repeats its last (R318), a clip at its length is done (R319). -/
def State.ringTake (s : State) (r : Nat) : State :=
  let i := 0x2748 + r
  let x := s.ring r
  if s.getN i 1 = 2 ∧ s.getBit i 8 1 = false then s
  else match x.buf with
    | f :: t => s.setRing r { x with buf := t, last := f }
    | [] =>
      if s.getN i 1 = 2 ∧ x.clip ≤ x.cons then ((s.setRing r { x with last := [] }).setBit i 8 2 true).setBit i 8 1 false
      else s.count i 9

/-- `k` frames in a row. -/
def State.ringTakes (s : State) (r : Nat) : Nat → State
  | 0 => s
  | k + 1 => (s.ringTake r).ringTakes r k

/-- A clip that waits to start does so, its length read from the header at this moment (R319). -/
def State.clipStart (s : State) (r : Nat) : State :=
  let i := 0x2748 + r
  if (s.ring r).start = false then s
  else
    let (s, q) := s.xbRead 10 (s.ringTag r) (s.getN i 2 + 8) 4
    let l := if q.code = 0 then ofLE q.data else 0
    let fr := s.ringFrames r
    let s := ((s.setBit i 8 3 (decide (fr < l))).setBit i 8 2 false).setBit i 8 1 true
    s.setRing r { s.ring r with start := false, clip := min l fr, cons := 0, buf := [], stop := none }

/-- A matrix sample period at `t`, `last` the one before it: a playback ring gives the frames of its own rate that fall due, at most 4
(R290, R316). -/
def State.ringPlay (s : State) (last t r : Nat) : State :=
  let i := 0x2748 + r
  let m := s.getN i 1
  let n := fun (s : State) => min 4 (samplesBetween s.anchor (s.playRate r) last t)
  if m = 1 ∧ s.getBit i 8 0 then s.ringTakes r (n s)
  else if m = 2 then
    let s := s.clipStart r
    if s.getBit i 8 1 = false then s
    else
      let x := s.ring r
      match x.stop with
      | some 0 => (s.setRing r { x with stop := none, last := [], buf := [] }).setBit i 8 1 false
      | st => (s.setRing r { x with stop := st.map (· - 1) }).ringTakes r (n s)
  else s

/-- A frame arrives at a capture ring: it waits for the transfer. -/
def State.ringCapture (s : State) (r : Nat) (f : List Int) : State :=
  let x := s.ring r
  s.setRing r { x with buf := x.buf ++ [f], times := x.times ++ [s.tbc] }

/-- The ring header's count and time (R316): for playback the sample period of the frame at the consumer count, behind those already
read; for capture that of the last frame written, `t`. -/
def State.ringHeader (s : State) (r t : Nat) : State :=
  let i := 0x2748 + r
  let x := s.ring r
  let a := s.getN i 2
  let play := decide (s.getN i 1 ≤ 2)
  let f := s.playRate r
  let t := if play then sampleTime s.anchor f (sampleIndex s.anchor f (s.audio.now.getD s.tbc + 1) + Int.ofNat x.buf.length) else t
  let s := (s.writeMem 10 (s.ringTag r) (a + (if play then 4 else 0)) (toLE 4 ((if play then x.cons else x.prod) % 2 ^ 32))).1
  (s.writeMem 10 (s.ringTag r) (a + 16) (toLE 8 t)).1

/-- AUDIO_RING_TRANSFER (R317): up to 32 whole frames move between ring r and the matrix, never beyond the ring's end. -/
def execAudioRingTransfer (r : Fin 16) (frames : Nat) (at_ : Nat) (s : State) : Host.Outcome State Fault Refusal :=
  let i := 0x2748 + r.val
  let m := s.getN i 1
  if !s.power.run ∨ m = 0 then .next s
  else
    let s := s.atTime at_
    let x := s.ring r
    let fb := s.frameBytes r
    let fr := s.ringFrames r
    let a := s.getN i 2
    let b := s.getN i 5
    if fr = 0 ∨ fb = 0 then .next s
    else if m ≤ 2 then
      -- the producer's count is read from the header; a clip has its length
      let (s, q) := s.xbRead 10 (s.ringTag r) a 4
      let avail := if m = 2 then (if s.getBit i 8 1 then x.clip - x.cons else 0)
        else if q.code = 0 then (ofLE q.data + 2 ^ 32 - x.cons % 2 ^ 32) % 2 ^ 32 else 0
      let n := min (min (min frames 32) avail) (fr - x.cons % fr)
      if n = 0 then .next s
      else
        let (s, d) := s.readMem 10 (s.ringTag r) (a + 64 + x.cons % fr * fb) (n * fb)
        if d.code ≠ 0 then .next s
        else
          let fs := (List.range n).map (fun j => frameFrom b (s.ringChannels r) (d.data.drop (j * fb)))
          .next ((s.setRing r { x with buf := x.buf ++ fs, cons := x.cons + n }).ringHeader r 0)
    else
      let (s, q) := s.xbRead 10 (s.ringTag r) (a + 4) 4
      let used := if q.code = 0 then (x.prod + 2 ^ 32 - ofLE q.data) % 2 ^ 32 else fr
      let n := min (min (min frames 32) x.buf.length) (fr - x.prod % fr)
      let fit := min n (fr - used)
      -- frames that arrive at a full ring are discarded whole
      let lost := if fit < n then n - fit else 0
      let (s, w) := s.writeMem 10 (s.ringTag r) (a + 64 + x.prod % fr * fb) ((x.buf.take fit).flatMap (fun f => f.flatMap (sampleBytes b)))
      if w.code ≠ 0 then .next ((s.setRing r { x with buf := x.buf.drop n, times := x.times.drop n }).addN i 0x0A n)
      else
        let s := (s.setRing r { x with buf := x.buf.drop n, times := x.times.drop n, prod := (x.prod + fit) % 2 ^ 32 }).addN i 0x0A lost
        .next (if fit = 0 then s else s.ringHeader r (x.times.getD (fit - 1) s.tbc))

/-- AR_PLAY written 1 (R319): the clip starts at the next matrix sample period, or restarts at frame 0. -/
def State.playStart (s : State) (r : Nat) : State :=
  if s.getN (0x2748 + r) 1 = 2 then s.setRing r { s.ring r with start := true } else s

/-- AR_PLAY written 0 (R319): the channels ramp out over AU_RAMP_MS, then the clip stops. -/
def State.playStop (s : State) (r : Nat) : State :=
  if s.getN (0x2748 + r) 1 = 2 ∧ s.getBit (0x2748 + r) 8 1 then
    s.setRing r { s.ring r with stop := some (roundDiv (s.getN 0x2740 3 * s.matrixRate) 1000), start := false }
  else s.setRing r { s.ring r with start := false }

/-- A ring at its apply point: both counts 0, RUNNING while its mode moves frames by itself (R317). -/
def State.ringApply (s : State) (r : Nat) : State :=
  let i := 0x2748 + r
  let m := s.getN i 1
  let s := (s.setRing r {}).setN i 8 (b2n (m != 0))
  if m = 0 then s else (s.writeMem 10 (s.ringTag r) (s.getN i 2) (zeros 8)).1

/-! ## Serial audio ports (R308–R313) -/

/-- Whether a side is master. -/
def sapMaster (m : Nat) : Bool := m == 2 || m == 4

/-- A received slot as a 24-bit sample (R309). -/
def slotIn (b v : Nat) : Int :=
  if b = 16 then toInt 16 v * 256 else if b = 24 then toInt 24 v else toInt 24 (v / 256)

/-- A sample as a slot word (R309). -/
def slotOut (b : Nat) (v : Int) : Nat :=
  if b = 16 then ofInt 16 (min 0x7FFF ((v + 0x80) / 256)) else if b = 24 then ofInt 24 v else ofInt 24 v * 256

/-- When a side's next frame begins: a master side runs on the grid of R290 at its own rate (R134, R311), a follower's clock gives
`at_`. `last` is its last frame. -/
def State.sapTime (s : State) (mode code : Nat) (last : Option Nat) (at_ : Nat) : Nat :=
  if sapMaster mode then
    samplePeriodAt s.anchor (audioRate code) (match last with
      | some t => t + 1
      | none => s.tbc)
  else at_

/-- SAP_FRAME_RECEIVED (R312, R313): a whole frame on the RX side, with the BCLK edges counted in it. -/
def execSapFrameReceived (n : Fin 16) (slots : List Nat) (bclk : Nat) (nonAudio : BitVec 8) (at_ : Nat) (s : State) :
    Host.Outcome State Fault Refusal :=
  let i := 0x2700 + n.val
  let m := s.getN i 1
  if !s.power.run ∨ m = 0 then .next s
  else
    let s := s.atTime (s.sapTime m (s.getN i 0x0F) (s.sap n).rxAt at_)
    let s := s.setSap n { s.sap n with rxAt := some s.tbc }
    let k := 0x40 + n.val
    let ns := s.getN i 3; let nb := s.getN i 4
    let mask := s.getN i 5
    let bad := !sapMaster m && bclk != ns * nb
    let s := (s.setBit i 0x12 0 true).setBit i 0x12 1 (!bad)
    let f := s.feed k
    let l := if bad then f.good else (List.range ns).map (fun c => if bitAt mask c then slotIn nb (slots.getD c 0) else 0)
    let s := if bad then ((s.count i 0x13).setSap n { s.sap n with rxErr := some s.tbc })
      else s.setFeed k { f with good := l }
    let (s, l) := if bad then (s, l) else s.nonAudio k l nonAudio.toNat
    let s := s.feedPush k l
    -- direct capture rings of this port take the admitted slots in order (R320)
    .next ((List.range 16).foldl (fun s r =>
      if s.getN (0x2748 + r) 1 = 4 ∧ s.getN (0x2748 + r) 7 = n.val then
        s.ringCapture r (((List.range 16).filter (fun c => bitAt mask c)).map (fun c => l.getD c 0))
      else s) s)

/-- Whether a port transmits as master at the matrix rate: its TX FIFO never empties or fills (R313). -/
def State.sapLocked (s : State) (n : Nat) : Bool :=
  sapMaster (s.getN (0x2700 + n) 2) && audioRate (s.getN (0x2700 + n) 0x10) == s.matrixRate

/-- SAP_TX_FRAME (R312, R313): the pins need a frame at FS; `bclk` counts the edges of the frame before it. -/
def execSapTxFrame (n : Fin 16) (bclk : Nat) (at_ : Nat) (s : State) : Host.Outcome State Fault Refusal :=
  let i := 0x2700 + n.val
  let m := s.getN i 2
  if !s.power.run ∨ m = 0 then .next s
  else
    let s := s.atTime (s.sapTime m (s.getN i 0x10) (s.sap n).txAt at_)
    let s := s.setSap n { s.sap n with txAt := some s.tbc }
    let ns := s.getN i 3; let nb := s.getN i 4
    let mask := s.getN i 6
    let bad := !sapMaster m && s.getBit i 0x12 2 && bclk != ns * nb
    let s := (s.setBit i 0x12 2 true).setBit i 0x12 3 (!bad)
    let x := s.sap n
    let s := if bad then ((s.count i 0x13).setSap n { x with txErr := some s.tbc }) else s
    let x := s.sap n
    let asrc := s.getN i 0x11 == 1
    let (s, x, f) :=
      if asrc then
        -- one ASRC channel per enabled slot: free samples, zero where no route is enabled
        (s.drawn, { x with tx := [] }, (List.range 16).map (fun c =>
          if s.destOn (384 + 16 * n.val + c) then (Config.asrcSample (512 + 16 * n.val + c) s.seed).toInt else 0))
      else match x.tx with
        | f :: t => (s, { x with tx := t }, f)
        | [] => (if s.sapLocked n then s else s.count i 0x0A, x, x.txLast)
    .next (s.setSap n { x with txLast := f, sent := (List.range ns).map (fun c => if bitAt mask c then some (slotOut nb (f.getD c 0)) else none) })

/-- How long a follower side is without an FS edge before its clock is absent, in ticks: 2 frame periods at its last measured rate, or
1 ms where it has none (R312). -/
def absentAfter (rate : Nat) : Nat := if rate = 0 then Config.ticksPerMs else ceilDiv (2 * 2700000000) rate

/-- SAP_CLOCK_ABSENT (R312): a follower clock with no FS edge for the timeout. -/
def execSapClockAbsent (n : Fin 16) (tx : Bool) (at_ : Nat) (s : State) : Host.Outcome State Fault Refusal :=
  let i := 0x2700 + n.val
  let m := s.getN i (if tx then 2 else 1)
  if !s.power.run ∨ sapMaster m ∨ m = 0 then .next s
  else
    let last := if tx then (s.sap n).txAt else (s.sap n).rxAt
    let s := s.atTime (match last with
      | some t => max at_ (t + absentAfter (s.getN i (if tx then 8 else 7)))
      | none => at_)
    if tx then .next (((s.setBit i 0x12 2 false).setBit i 0x12 3 false).setSap n { s.sap n with sent := [] })
    else .next ((s.setBit i 0x12 0 false).setBit i 0x12 1 false)

/-- A port takes up its settings: master sides have their clock, follower sides wait for one. -/
def State.sapApply (s : State) (n : Nat) : State :=
  let i := 0x2700 + n
  let rx := b2n (sapMaster (s.getN i 1)); let tx := b2n (sapMaster (s.getN i 2))
  ((s.setSap n {}).setFeed (0x40 + n) {}).setN i 0x12 (rx ||| (rx <<< 1) ||| (tx <<< 2) ||| (tx <<< 3))

/-! ## The matrix (R290, R303) -/

/-- MATRIX_SAMPLE_PERIOD (R290): the next matrix sample period. Every feed and playback ring gives its sample, every
destination takes its own, and embedders, SAP TX FIFOs and routed capture rings receive them. -/
def execMatrixSamplePeriod (s : State) : Host.Outcome State Fault Refusal :=
  if !s.power.enabled then .next s
  else
    let t := samplePeriodAt s.anchor s.matrixRate (match s.audio.now with
      | some t => t + 1
      | none => s.tbc)
    let last := s.audio.now.getD (sampleTime s.anchor s.matrixRate (sampleIndex s.anchor s.matrixRate t - 1))
    let s := s.atTime t
    let s := { s with audio := { s.audio with now := some t } }
    let s := (List.range 80).foldl State.feedRead s
    let s := (List.range 16).foldl (State.ringPlay · last t) s
    let s := s.drawn
    let (s, l) := s.destAll (List.range destCount)
    let s := (List.range 48).foldl (fun s n =>
      if (List.range 8).any (fun c => s.destOn (8 * n + c)) then
        let o := s.output n
        s.setOutput n { o with embed := o.embed ++ [(List.range 8).map (fun c => sampleOf l (8 * n + c))] }
      else s) s
    let s := (List.range 16).foldl (fun s n =>
      if s.getN (0x2700 + n) 2 = 0 ∨ s.getN (0x2700 + n) 0x11 = 1 ∨ s.getBit (0x2700 + n) 0x12 2 = false then s
      else
        let x := s.sap n
        let f := (List.range 16).map (fun c => sampleOf l (384 + 16 * n + c))
        if x.tx.length < 64 then s.setSap n { x with tx := x.tx ++ [f] }
        else
          let u := s.setSap n { x with tx := x.tx.drop 1 ++ [f] }
          if s.sapLocked n then u else u.count (0x2700 + n) 0x0E) s
    .next ((List.range 16).foldl (fun s r =>
      if s.getN (0x2748 + r) 1 = 3 then s.ringCapture r ((List.range (s.ringChannels r)).map (fun c => sampleOf l (640 + 16 * r + c)))
      else s) s)

/-- A change of AU_MATRIX_RATE: every destination is cut and starts from an empty line (R303). -/
def State.matrixRestart (s : State) : State :=
  (List.range destCount).foldl (fun s d =>
    if s.destOn d then s.setDest d { route := s.route d, fill := routeDelay (s.route d) } else s.setDest d {}) s

/-! ## Embedding (R306, R307) -/

/-- Whether an output embeds: DP mode and an enabled route. -/
def State.embeds (s : State) (n : Nat) : Bool := s.getN (0x2200 + n) 1 == 1 && (List.range 8).any (fun c => s.destOn (8 * n + c))

/-- The samples an output sends with its frame k (R307). -/
def samplesIn (f p k : Nat) : Nat := (k + 1) * f * p / 27000000 - k * f * p / 27000000

/-- The link symbol clock of a link rate code, in Hz (R271). -/
def symbolClock (c : Nat) : Nat := [162000000, 270000000, 540000000, 810000000].getD c 162000000

/-- What an output sends with its audio (R306): LPCM of `ch` channels and 24 bits at the matrix rate, with Maud and Naud in the exact
ratio of 512 times that rate to the link symbol clock, in lowest terms. -/
def audioInfo (f ch link : Nat) : AudioInfo :=
  let g := Nat.gcd (512 * f) (symbolClock link)
  { ch := ch, rate := f, bits := 24, maud := 512 * f / g, naud := symbolClock link / g }

/-- The audio that goes with an output frame: samples(k) of the frames gathered leave with it, in 2 or 8 channels; after a gap (`gap`)
all that were gathered have left by its end (R279, R307). While the link is untrained or LINK_SHORT is set nothing is sent. -/
def State.embedFrame (s : State) (n k : Nat) (gap : Bool) : State :=
  let o := s.output n
  let cnt := samplesIn s.matrixRate (framePeriod o.tim.code) k
  let cnt := if gap then max cnt o.embed.length else cnt
  let ch := if (List.range 8).any (fun c => decide (2 ≤ c) && s.destOn (8 * n + c)) then 8 else 2
  if !s.embeds n || !s.getBit (0x2200 + n) 4 3 || s.getBit (0x2200 + n) 4 5 then
    s.setOutput n { o with embed := [], embedK := 0, sdp := [], info := none }
  else s.setOutput n { o with
    embed := o.embed.drop cnt
    embedK := cnt
    sdp := (o.embed.take cnt).map (·.take ch)
    info := some (audioInfo s.matrixRate ch (bits (s.getN (0x2200 + n) 0x15) 15 8)) }

/-! ## Rates (R314, R315) -/

/-- The nominal code of a measured rate in 0.01 Hz: within ±500 ppm of a code's rate (R314). -/
def nominalCode (r : Nat) : Nat :=
  (((List.range 11).find? (fun i =>
    let f := 100 * audioRate (i + 1)
    decide ((Int.ofNat r - Int.ofNat f).natAbs * 1000000 ≤ 500 * f))).map (· + 1)).getD 0

/-- A change of a nominal code is recorded and raises the event (R315). -/
def State.rateChange (s : State) (kind num old new : Nat) : State :=
  if old = new then s
  else (s.setN 0x2740 9 ((kind <<< 24) ||| ((num % 256) <<< 16) ||| ((num / 256 % 2) <<< 15) ||| (old <<< 8) ||| new)).event 17

/-- RATE_MEASURE (R314): `frames` sample frames in the last second, `ticks` between the first and the last of them. -/
def execRateMeasure (what : RateOf) (frames ticks : Nat) (at_ : Nat) (s : State) : Host.Outcome State Fault Refusal :=
  if !s.power.run then .next s
  else
    let s := s.atTime at_
    let r := if frames < 2 ∨ ticks = 0 then 0 else min maxU32 (roundDiv ((frames - 1) * 2700000000) ticks)
    let c := nominalCode r
    match what with
    | .sapRx n =>
      let x := s.sap n
      .next (((s.setN (0x2700 + n.val) 7 r).setSap n { x with rxCode := c }).rateChange 0 n x.rxCode c)
    | .sapTx n =>
      let x := s.sap n
      .next (((s.setN (0x2700 + n.val) 8 r).setSap n { x with txCode := c }).rateChange 1 n x.txCode c)
    | .source k =>
      let x := s.src k
      if !s.srcPresent (s.srcEntry k) && x.code == 0 then .next s
      else .next ((s.setSrc k { x with rate := r, code := c }).rateChange 2 k x.code c)

/-- AU_SOURCE_STATUS (R314). -/
def State.sourceStatus (s : State) : List Byte :=
  (List.range 512).flatMap (fun k =>
    let x := s.src k
    let e := s.srcEntry k
    let slipped := x.slipAt.any (fun t => decide (s.tbc < t + Config.ticksPerSec))
    toLE 4 x.rate ++ [BitVec.ofNat 8 (b2n (s.srcPresent e) ||| (b2n (s.srcMuted e) <<< 1) ||| (b2n x.locked <<< 2) ||| (b2n slipped <<< 3)),
      BitVec.ofNat 8 x.code] ++ toLE 2 x.slips)

/-- AU_ASRC_USED and AU_DEST_USED from the routes in use (R302). -/
def State.audioUsed (s : State) : State :=
  let on := (List.range destCount).filter s.destOn
  let named := (List.range 512).filter (fun k => srcAsrc (s.srcEntry k) && on.any (fun d => routeSrc (s.route d) == k))
  let tx := (on.filter (fun d => decide (384 ≤ d) && decide (d < 640) && s.getN (0x2700 + (d - 384) / 16) 0x11 == 1)).length
  (s.setN 0x2740 7 (named.length + tx)).setN 0x2740 8 on.length

end Sys2Proof.Machine
end

