-- ==== Sys2Proof/Machine/Memory.lean ====
section
/-! DEFINITION. On-chip banks and the DRAM controllers (chapters 12, 13): power states, scrub, march and preserving
tests, repair records, crossbar transactions with locks, promotion, DRAM training, refresh and patrol. -/
namespace Sys2Proof.Machine

/-! ## Bank power (R360–R363) -/

/-- The code MB_POWER gives logical bank `b`: ON beyond its present size (R360). -/
def powerCode (l : List Byte) (b : Nat) : Nat := bits (byteAt l (b / 4)) (2 * (b % 4) + 1) (2 * (b % 4))

/-- Free, good spares of group `g`, the lower first (R360, R377). -/
def State.freeSpares (s : State) (g : Nat) : List Nat :=
  [512 + 2 * g, 513 + 2 * g].filter (fun p => !(s.phys p).failed && !(s.bank.served.any (fun q => q.2 == p)) &&
    !(s.bank.test.any (fun t => t.spare == p)))

def State.setServed (s : State) (b p : Nat) : State :=
  { s with bank := { s.bank with served := (b, p) :: s.bank.served.filter (fun q => !(q.1 == b)) } }
def State.clearServed (s : State) (b : Nat) : State :=
  { s with bank := { s.bank with served := s.bank.served.filter (fun q => !(q.1 == b)) } }

/-- The counts of 0x2900. -/
def State.bankCounts (s : State) : State :=
  let free := (List.range 8).foldl (fun a g => a +
    ([512 + 2 * g, 513 + 2 * g].filter (fun p => !(s.phys p).failed && !(s.bank.served.any (fun q => q.2 == p)))).length) 0
  ((s.setN 0x2900 1 free).setN 0x2900 2 s.bank.lfailed.length).setN 0x2900 3 s.bank.served.length

/-- MT_STATE and MT_BANK follow the test (R378). -/
def State.mtShow (s : State) : State :=
  match s.bank.test with
  | none => (s.setN 0x2904 3 0).setN 0x2904 4 0xFFFF
  | some t =>
    let st := if t.phase ≤ 2 then t.phase else if t.phase ≤ 4 then 3 else 4
    (s.setN 0x2904 3 st).setN 0x2904 4 t.bank

/-- Write an entry of MT_RESULTS for physical bank `p` (R375, chapter 12): `res` 1 pass, 2 fail, 3 aborted, 4 skipped,
5 Gate-refused. -/
def State.mtResult (s : State) (p res : Nat) (r : March) : State :=
  let k := s.phys p
  let back := b2n (k.tests % 2 == 1)
  let ran := res == 1 || res == 2
  let k := { k with rTbc := s.tbc, result := res, rBack := back, tests := k.tests + b2n ran,
                    rCount := min 255 r.count, rWord := (if r.fails then r.word else 0xFFFF), rCols := r.cols.take 4 }
  let s := s.setPhys p k
  { s with bank := { s.bank with gen := s.bank.gen + 1, passed := s.bank.passed + b2n (res == 1), failures := s.bank.failures + b2n (res == 2) } }

def noMarch : March := { fails := false, count := 0, word := 0xFFFF, cols := [] }

/-- End the test in progress (R378, R382): the spare is freed and returns to OFF; the bank's contents are those it
would hold without a test. -/
def State.testEnd (s : State) (res : Nat) : State :=
  match s.bank.test with
  | none => s
  | some t =>
    let s := if t.alone then s else s.clearServed t.bank
    let s := s.setPhys t.spare { s.phys t.spare with st := 2, moveTo := none }
    let s := s.mtResult (if t.alone then t.spare else t.bank) res noMarch
    ({ s with bank := { s.bank with test := none } }).bankCounts.mtShow

/-- Set the state that MB_POWER gives logical bank `b` in motion (R360); a test of the bank ends (R382). -/
def State.powerBank (s : State) (b code : Nat) : State :=
  let s := if code ≠ 0 ∧ s.bank.test.any (fun t => t.bank == b && !t.alone) then s.testEnd 3 else s
  let p := s.servedBy b
  let k := s.phys p
  if k.st = code ∧ k.moveTo = none then s
  else s.setPhys p { k with moveTo := some code }

/-- Every logical bank takes the state of the active MB_POWER (R360, R363). -/
def State.applyPower (s : State) : State :=
  let l := s.getB 0x2902 0
  (List.range 512).foldl (fun s b => s.powerBank b (powerCode l b)) s

/-- BANK_POWER_READY (R360, R361): the transition of physical bank `p` ends. -/
def execBankPowerReady (p : Fin 528) (s : State) : Host.Outcome State Fault Refusal :=
  if !s.power.run then .next s else .next (s.bankReady p)

/-! ## Repair records (R384–R386) -/

def recBank (r : Nat) : Nat := bits r 21 12
def recIsBank (r : Nat) : Bool := bitAt r 9

/-- Parity of 24 bits even. -/
def evenParity (r : Nat) : Bool := (List.range 24).foldl (fun a i => xor a (bitAt r i)) false == false

/-- Whether a record is well formed (R384): VALID, parity, every field in its range. -/
def recOk (r : Nat) : Bool :=
  bitAt r 23 && evenParity r &&
  (if recIsBank r then decide (recBank r ≤ 511) && decide (bits r 11 10 ≤ 1) && (bits r 8 0 == 0)
   else decide (recBank r ≤ 527) && decide (bits r 8 0 ≤ 265))

/-- Whether two well-formed records claim one spare column of one bank, one column of one bank, or one spare bank (R384).
Two bank records for one logical bank claim it twice as well (log entry 15). -/
def recConflict (a b : Nat) : Bool :=
  if recIsBank a && recIsBank b then
    (recBank a / 64 == recBank b / 64 && bits a 11 10 == bits b 11 10) || recBank a == recBank b
  else if !recIsBank a && !recIsBank b then
    recBank a == recBank b && (bits a 11 10 == bits b 11 10 || bits a 8 0 == bits b 8 0)
  else false

/-- The records that apply, with the counts of invalid and conflicting ones (R384). A slot never programmed (all bits 0) is
no record and is not counted. -/
def recScan (rs : List Nat) : List Nat × Nat × Nat :=
  rs.foldl (fun a r =>
    if r = 0 then a
    else if !recOk r then (a.1, a.2.1 + 1, a.2.2)
    else if a.1.any (recConflict r) then (a.1, a.2.1, a.2.2 + 1)
    else (a.1 ++ [r], a.2.1, a.2.2)) ([], 0, 0)

def State.records (s : State) : List Nat := s.bank.factory ++ s.bank.customer

/-- A bank record takes effect (R385): its spare serves the bank in the state of the bank that served it before, which, if a
spare, becomes free. A spare that already serves another bank goes on serving it (log entry 128). -/
def State.loadBankRecord (s : State) (b p : Nat) : State :=
  let old := s.servedBy b
  if old = p ∨ s.bank.served.any (fun q => q.2 == p) then s
  else
    let s := (s.setServed b p).setPhys p { s.phys p with st := (s.phys old).st, moveTo := (s.phys old).moveTo }
    if 512 ≤ old then s.setPhys old { s.phys old with st := 2, moveTo := none } else s

/-- Load the repair records at a data-plane start (R385). -/
def State.loadRepairs (s : State) : State :=
  let (rs, inv, con) := recScan s.records
  let s := rs.foldl (fun s r =>
    if recIsBank r then s.loadBankRecord (recBank r) (512 + 2 * (recBank r / 64) + bits r 11 10) else s) s
  (((s.setN 0x2906 2 (s.bank.customer.filter (· == 0)).length).setN 0x2906 3 (min 255 inv)).setN 0x2906 4 (min 255 con)).bankCounts

/-- Whether a new record would be ignored or count as a conflict, or no customer slot is free (R386). -/
def State.repairRefuses (s : State) (r : Nat) : Bool :=
  !recOk r || (recScan s.records).1.any (recConflict r) || s.bank.customer.all (fun x => !(x == 0))

/-! ## March tests (R376–R383) -/

/-- A memory log entry of kind 6 or 7 with the memory-fault event (R377, R380, R469). -/
def State.bankFault (s : State) (kind b p : Nat) : State :=
  (s.memLog kind 0xFF 0 (toLE 2 b ++ toLE 2 p)).event 19

/-- Give a failing logical bank a free spare of its group, or fail it (R377). -/
def State.substitute (s : State) (b : Nat) : State :=
  let p := s.servedBy b
  match (s.freeSpares (b / 64)).filter (fun q => !(q == p)) with
  | q :: _ =>
    let s := (s.setServed b q).setPhys q { s.phys q with st := 0, moveTo := none }
    s.bankFault 6 b q
  | [] => ({ s with bank := { s.bank with lfailed := addNew b s.bank.lfailed } }).bankFault 7 b p

/-- The cold march (R376, R377): `fails` are the physical banks that failed; `keep` says that the standby image's banks
are left out. Every bank tested is zero-filled. -/
def State.coldMarch (s : State) (keep : Bool) (fails : List (Nat × March)) : State :=
  let kept := fun (p : Nat) => keep && (match s.serves p with | some b => decide (b < 32) | none => false)
  let tested := (List.range 528).filter (fun p => !kept p)
  let s := tested.foldl (fun s p =>
    match fails.find? (fun f => f.1 == p) with
    | some f =>
      let s := s.mtResult p 2 f.2
      s.setPhys p { s.phys p with failed := true, st := (if p < 512 then 0 else 2), moveTo := none }
    | none =>
      let s := s.mtResult p 1 noMarch
      s.setPhys p { s.phys p with st := (if p < 512 ∨ (s.serves p).isSome then 0 else 2), moveTo := none }) s
  let lost := fun (a : Nat) => inRange a sramBase sramSize && !(keep && inRange a sramBase 0x400000)
  let bk := { s.bank with ue := s.bank.ue.filter (fun w => !lost (w * 32)), ce := s.bank.ce.filter (fun w => !lost (w * 32)) }
  let s := { s with mem := s.mem.filter (fun c => !lost c.1), bank := bk }
  let bad := (List.range 512).filter (fun b => (fails.any (fun f => f.1 == s.servedBy b)) && !(s.bank.lfailed.contains b) && !kept (s.servedBy b))
  (bad.foldl (fun s b => s.substitute b) s).bankCounts

/-- Whether M17's Gates refuse the engine's work on logical bank `b` (R372). -/
def State.m17Refused (s : State) (b : Nat) : Bool :=
  let gs := s.gates 17
  let x := fun wr => ({ m := 17, tag := 0, addr := bankAddr b, len := 0x20000, wr := wr, fetch := false, data := [] } : XReq)
  !gs.isEmpty && ((gateRefusal gs (x false) (bankAddr b)).isSome || (gateRefusal gs (x true) (bankAddr b)).isSome)

/-- Whether a data-plane reset cut the test of `b` short while its spare served it, and the spare still does (R382). -/
def State.resumes (s : State) (b : Nat) : Bool := s.bank.retest.contains b && !(s.servedBy b == b)

/-- Start a preserving test of logical bank `b` with spare `sp`: phase 1, the spare powered up (R378, R360). The test that
a reset cut short is taken up at phase 4, since the spare serves the bank already (log entry 129). -/
def State.testStart (s : State) (b sp : Nat) (alone : Bool) : State :=
  let again := s.resumes b && !alone
  let sp := if again then s.servedBy b else sp
  let s := if again then s else s.setPhys sp { s.phys sp with st := 0, moveTo := none }
  let s := { s with bank := { s.bank with test := some { bank := b, spare := sp, phase := if again then 4 else 1, alone := alone },
                                          retest := s.bank.retest.filter (fun x => !(x == b)) } }
  s.mtShow

/-- The spare that a preserving test of `b` takes: the lower free one of its group (R378), or the one that serves it. -/
def State.testSpare (s : State) (b : Nat) : Option Nat :=
  if s.resumes b then some (s.servedBy b) else (s.freeSpares (b / 64)).head?

/-- Whether logical bank `b` is tested in service (R381, R382). -/
def State.testable (s : State) (b : Nat) : Bool :=
  (s.phys (s.servedBy b)).st == 0 && (s.phys (s.servedBy b)).moveTo.isNone && !(s.bank.lfailed.contains b) &&
  (!(s.bank.served.any (fun q => q.1 == b)) || s.resumes b)

/-- MARCH_SCHEDULE (R381): the schedule reaches its next bank, no sooner than its interval after the one before. A bank with no free spare is reported skipped; past the last
bank the pass is counted and the next begins. -/
def execMarchSchedule (at_ : Nat) (s : State) : Host.Outcome State Fault Refusal :=
  if !s.power.run ∨ s.getN 0x2904 1 = 0 ∨ s.bank.test.isSome then .next s else
  let now := max (max at_ s.tbc) s.bank.testDue
  let s := s.atTime now
  -- the interval is MT_PERIOD_S over the banks eligible at the start of the pass
  let n := if s.bank.passNext = 0 then ((List.range 512).filter s.testable).length else s.bank.passCount
  let s := { s with bank := { s.bank with passCount := n, testDue := now + s.getN 0x2904 2 * Config.ticksPerSec / max 1 n } }
  match ((List.range 512).filter (fun b => decide (s.bank.passNext ≤ b) && s.testable b)) with
  | [] =>
    let s := if s.bank.passNext = 0 then s else s.setN 0x2904 6 (satAdd maxU32 (s.getN 0x2904 6) 1)
    -- the first bank of the next pass is due where this one would have been
    .next { s with bank := { s.bank with passNext := 0, testDue := now } }
  | b :: _ =>
    let s := { s with bank := { s.bank with passNext := b + 1 } }
    match s.testSpare b with
    | none => .next (s.mtResult b 4 noMarch)
    | some sp => .next (s.testStart b sp false)

/-- The words of logical bank `b` that hold one wrong bit. -/
def State.ceWords (s : State) (b : Nat) : List Nat := s.bank.ce.filter (fun w => inRange (w * 32) (bankAddr b) 0x20000)

/-- A copy of bank `b` ends (R378): each single-bit error on the way was corrected, and counted as a correcting read counts
it (R357, log entry 129). -/
def State.copyDone (s : State) (b : Nat) : State :=
  (s.ceWords b).foldl (fun s w => s.countCE (.sram (w * 32 - sramBase) 0) (w * 32)) s

/-- From a redirect on, the bank is served by the corrected copy; accesses held meanwhile count as conflicts (R378, R379). -/
def State.redirected (s : State) (b : Nat) (held : List (Fin 20 × Fin 17)) : State :=
  let ws := s.ceWords b
  let s := { s with bank := { s.bank with ce := s.bank.ce.filter (fun w => !ws.contains w) } }
  held.foldl (fun s h => s.addN (0x2910 + h.1) 0x1B h.2) s

/-- PRESERVING_TEST_PHASE_DONE (R378–R380, R382): the phase in progress ends; `r` is the march's outcome in phases 1 and 4,
and the accesses held during a redirect. A redirect waits while a lock is held on the bank's
group (R401). -/
def execPreservingTestPhaseDone (r : PhaseEnd) (at_ : Nat) (s : State) : Host.Outcome State Fault Refusal :=
  match s.bank.test with
  | none => .next s
  | some t =>
    if !s.power.run then .next s else
    let s := s.atTime at_
    let go := fun (s : State) (ph : Nat) => ({ s with bank := { s.bank with test := some { t with phase := ph } } }).mtShow
    if t.alone then
      let s := s.mtResult t.spare (if r.fails then 2 else 1) r.toMarch
      let s := s.setPhys t.spare { s.phys t.spare with st := 2, moveTo := none, failed := (s.phys t.spare).failed || r.fails }
      .next ({ s with bank := { s.bank with test := none } }).bankCounts.mtShow
    else if s.m17Refused t.bank then
      -- each engine access is refused, counted and logged as any Gate refusal (R372)
      .next ((s.xbRead 17 0 (bankAddr t.bank) 32).1.testEnd 5)
    else if t.phase = 1 then
      let s := s.mtResult t.spare (if r.fails then 2 else 1) r.toMarch
      if r.fails then
        let s := s.setPhys t.spare { s.phys t.spare with failed := true }
        .next (s.testEnd 4)
      else .next (go s 2)
    else if t.phase = 2 then .next (go (s.copyDone t.bank) 3)
    else if t.phase = 3 then
      if s.xb.lock.any (fun l => l.t == t.bank / 64) then .next s
      else .next (go ((s.setServed t.bank t.spare).redirected t.bank r.held) 4)
    else if t.phase = 4 then
      if r.fails then
        -- the spare keeps serving the bank; the physical bank never returns before the next power-on (R380)
        let s := s.mtResult t.bank 2 r.toMarch
        let s := s.setPhys t.bank { s.phys t.bank with failed := true }
        let s := { s with bank := { s.bank with test := none } }
        .next ((s.bankFault 6 t.bank t.spare).bankCounts.mtShow)
      else .next (go s 5)
    else if t.phase = 5 then .next (go (s.copyDone t.bank) 6)
    else
      if s.xb.lock.any (fun l => l.t == t.bank / 64) then .next s
      else
        let s := ((s.clearServed t.bank).redirected t.bank r.held).setPhys t.spare { s.phys t.spare with st := 2, moveTo := none }
        let s := s.mtResult t.bank 1 noMarch
        .next ({ s with bank := { s.bank with test := none } }).bankCounts.mtShow

/-- The effect of a write of MT_RUN_NOW (R383): its status, and the state. -/
def State.mtRunNow (s : State) (b : Nat) : State × Nat :=
  if s.bank.test.isSome then (s, 0x0B)
  else if b < 512 then
    match s.testSpare b with
    | none => (s.mtResult b 4 noMarch, 0)
    | some sp => if s.testable b then (s.testStart b sp false, 0) else (s.mtResult b 4 noMarch, 0)
  -- a spare is free while it serves no bank, good or not (R360)
  else if !(s.bank.served.any (fun q => q.2 == b)) then (s.testStart b b true, 0)
  else (s, 0x07)

/-- The test at a data-plane stop (R382): freed in phases 1–2; in phases 3–6 the spare keeps serving the bank, which is
tested again at the next pass. -/
def State.testStop (s : State) : State :=
  match s.bank.test with
  | none => s
  | some t =>
    if t.phase ≤ 2 ∨ t.alone then s.testEnd 3
    else
      let s := (s.setServed t.bank t.spare).mtResult t.bank 3 noMarch
      ({ s with bank := { s.bank with test := none, retest := addNew t.bank s.bank.retest } }).bankCounts.mtShow

/-! ## Scrub (R359) -/

/-- A DRAM word damaged with inline ECC off holds wrong data from then on: one free bit wrong, or free bytes (R411). -/
def State.damage (s : State) (a : Nat) (ue : Bool) : State :=
  let w := a / 32 * 32
  let k := (Config.damageBit s.seed).val
  let new := (List.range 32).map (fun i =>
    if ue then Config.damageByte s.seed i
    else memByte s.mem (w + i) ^^^ (if i = k / 8 then 1#8 <<< (k % 8) else 0#8))
  { s with mem := memWrite s.mem w new }.drawn

/-- An error that has come about in memory: the word is marked uncorrectable, or holding one wrong bit (R356). -/
def State.upset (s : State) (a : Nat) (ue : Bool) : State :=
  let w := a / 32
  if dramBase ≤ a ∧ a < dramBase + s.dramU ∧ s.dram.ecc = false then s.damage a ue
  else if ue then { s with bank := { s.bank with ue := addNew w s.bank.ue, ce := s.bank.ce.filter (fun x => !(x == w)) } }
  else if s.bank.ue.contains w then s
  else { s with bank := { s.bank with ce := addNew w s.bank.ce } }

/-- The next ON physical bank at or after `p` that serves a logical bank, if any. -/
def State.scrubBank (s : State) (p : Nat) : Option (Nat × Nat) :=
  (List.range (528 - p)).findSome? (fun i =>
    if (s.phys (p + i)).st = 0 then (s.serves (p + i)).map (fun b => (p + i, b)) else none)

/-- The words that a pass of the scrub engine reads. -/
def State.scrubTotal (s : State) : Nat :=
  4096 * ((List.range 528).filter (fun p => (s.phys p).st == 0 && (s.serves p).isSome)).length

/-- SCRUB_READ (R359): the reads of a pass are spread evenly over SCRUB_PERIOD_S, and a pass that ends late delays the next. M19 reads the next word in ascending bank and word order. A corrected word is written back; a Gate
refusal ends the work on the bank (R372). -/
def execScrubRead (upset : Option Bool) (at_ : Nat) (s : State) : Host.Outcome State Fault Refusal :=
  if !s.power.run ∨ s.getN 0x2901 1 = 0 then .next s else
  let period := s.getN 0x2901 2 * Config.ticksPerSec
  let start := s.bank.scrubAt.getD (max at_ s.tbc)
  let s := s.atTime (max at_ (start + s.bank.scrubbed * period / max 1 s.scrubTotal))
  match s.scrubBank (s.bank.scrubNext / 4096) with
  | none => .next { s with bank := { s.bank with scrubNext := 0 } }
  | some (p, b) =>
    let word := if p = s.bank.scrubNext / 4096 then s.bank.scrubNext % 4096 else 0
    let a := bankAddr b + word * 32
    let s := match upset with
      | some ue => s.upset a ue
      | none => s
    let (s, r) := s.xbRead 19 0 a 32
    let s := if r.code = 0 then { s with bank := { s.bank with ce := s.bank.ce.filter (fun w => !(w == a / 32)) } } else s
    let nxt := if r.cause = 3 ∨ word = 4095 then (p + 1) * 4096 else p * 4096 + word + 1
    let done := (s.scrubBank (nxt / 4096)).isNone
    let s := { s with bank := { s.bank with scrubNext := if done then 0 else nxt, scrubbed := if done then 0 else s.bank.scrubbed + 1,
                                            scrubAt := some (if done then max (start + period) s.tbc else start) } }
    .next (if done then s.setN 0x2901 7 (satAdd maxU32 (s.getN 0x2901 7) 1) else s)

/-! ## Crossbar transactions (R398–R406) -/

/-- The target a request resolves to, if it is mapped. -/
def State.reqTarget (s : State) (a : Nat) : Option Nat := (remapAddr s.remap a).bind (fun a => s.targetOf (place s.dramU a))

/-- XB_PRIORITY of a master at a target (R399). -/
def State.xbPrio (s : State) (m t : Nat) : Nat := byteAt (s.getB (0x2A10 + m) 1) t

/-- The class a request competes in (R404). -/
def xbEffClass (m : Nat) (promoted : Bool) : Nat := if promoted && xbClass m == 2 then 1 else xbClass m

/-- Whether master `j` wins over master `k` at target `t` while its pointer stands at `p` (R398). -/
def State.xbBeats (s : State) (t p j k : Nat) : Bool :=
  let cj := xbEffClass j (s.xb.waiting.any (fun w => w.m == j && w.t == t && w.promoted))
  let ck := xbEffClass k (s.xb.waiting.any (fun w => w.m == k && w.t == t && w.promoted))
  if cj ≠ ck then decide (cj < ck)
  else if s.xbPrio j t ≠ s.xbPrio k t then decide (s.xbPrio k t < s.xbPrio j t)
  else decide ((j + 20 - p) % 20 < (k + 20 - p) % 20)

/-- Grants per cycle at a target (R398). -/
def xbGrants (t : Nat) : Nat := if t ≤ 7 then 4 else 1

/-- The order in which target `t` grants the masters `ms`, and where its pointer then stands (R398). -/
def State.grantOrder (s : State) (t : Nat) : Nat → Nat → List Nat → List Nat × Nat
  | 0, p, _ => ([], p)
  | n + 1, p, ms =>
    match ms.find? (fun j => ms.all (fun k => k == j || s.xbBeats t p j k)) with
    | none => ([], p)
    | some j =>
      let (rest, q) := s.grantOrder t n ((j + 1) % 20) (ms.filter (fun k => !(k == j)))
      (j :: rest, q)

/-- The competition at target `t`: each request waits the cycles that the grants before it take (R398, R406). A class D
master issues only in a cycle without requests of the other classes, so it waits at the arbiter from then on (R404). The
state, and the cycles for which `m` waits. -/
def State.compete (s : State) (t m : Nat) (rivals : List Nat) : State × Nat :=
  let all := (m :: rivals).foldl (fun l j => addNew j l) []
  let (order, p) := s.grantOrder t all.length (tabGet 0 s.xb.ptr t) all
  let above := (order.filter (fun j => !(xbClass j == 3))).length
  let wait := fun (i j : Nat) => (i - if xbClass j = 3 then above else 0) / xbGrants t
  let s := order.zipIdx.foldl (fun st ji => st.addN (0x2A10 + ji.1) 4 (wait ji.2 ji.1)) s
  let late := wait (order.idxOf m) m
  let s : State := { s with xb := { s.xb with ptr := tabSet 0 s.xb.ptr t p } }
  (s, late)

/-- An access at a bank: its number among those that meet there, its master, the cycle it reaches the bank, whether it is a
read-modify-write, and the cycles for which it has stalled (R367). -/
structure BankAcc where
  id : Nat
  m : Nat
  after : Nat
  rmw : Bool
  stalled : Nat

/-- The access that a bank performs of those that compete for a cycle (R367): the lowest master number among those that have
stalled 8 cycles, or among all when none has. -/
def bankPick (l : List BankAcc) : Option BankAcc :=
  let old := l.filter (fun a => decide (8 ≤ a.stalled))
  let l := if old.isEmpty then l else old
  l.find? (fun a => l.all (fun b => decide (a.m ≤ b.m)))

/-- The accesses at one bank, cycle by cycle, each as it stands when the bank performs it: every access that is there and not
performed stalls, and a read-modify-write holds the bank for a second cycle (R367). -/
def bankCycles : Nat → Nat → Bool → List BankAcc → List BankAcc
  | 0, _, _, l => l
  | n + 1, c, held, l =>
    let stall := mapIf (fun (a : BankAcc) => decide (a.after ≤ c)) (fun a => { a with stalled := a.stalled + 1 })
    match (if held then none else bankPick (l.filter (fun a => decide (a.after ≤ c)))) with
    | none => bankCycles n (c + 1) false (stall l)
    | some a => a :: bankCycles n (c + 1) a.rmw (stall (l.filter (fun b => !(b.id == a.id))))

/-- Bank conflicts (R367): each access at the bank, master `m`'s own (`rmw`) and those of `rivals`, adds the cycles for which
it stalls to its master's GATE_CONFLICTS. The state, and the cycles of the own access. -/
def State.bankConflicts (s : State) (m : Nat) (rmw : Bool) (rivals : List BankUse) : State × Nat :=
  let own : BankAcc := { id := 0, m := m, after := 0, rmw := rmw, stalled := 0 }
  let all := own :: rivals.zipIdx.map (fun r => { id := r.2 + 1, m := r.1.m.val, after := r.1.after.val, rmw := r.1.rmw, stalled := 0 })
  let done := bankCycles (16 + 2 * all.length) 0 false all
  (done.foldl (fun s a => s.addN (0x2910 + a.m) 0x1B a.stalled) s,
   ((done.find? (fun a => a.id == 0)).map (·.stalled)).getD 0)

/-- The response a master received (R395). -/
def State.setXResp (s : State) (m : Nat) (r : XResp) : State := { s with xb := { s.xb with resp := tabSet {} s.xb.resp m r } }

/-! ### Credits (R397) -/

/-- The request and write-data credits of a path to target `t`: a path to a DRAM channel that is not in use has none. The
channels in use change at a data-plane start only (R409). -/
def State.xbBudget (s : State) (t : Nat) : Nat × Nat :=
  if t ≤ 7 then (4, 16)
  else if t ≤ 11 then if s.dram.chans.contains (t - 8) then (16, 64) else (0, 0)
  else if t = 12 then (2, 2) else (2, 0)

/-- The write-data credits that a transaction takes: one per write beat. A write to the boot ROM is refused, so no data of it
are taken (log entry 127). -/
def XWait.dataCredits (w : XWait) : Nat := if w.wr ∧ w.t ≠ 13 then (beatsOf w.addr w.len).length else 0

/-- The credits of path `m` to `t` that are at the master: the budget less what the requests at the target hold. -/
def State.xbHeld (s : State) (m t : Nat) : Nat × Nat :=
  (s.xb.waiting.filter (fun w => w.m == m && w.t == t)).foldl (fun h w => (h.1 - 1, h.2 - w.dataCredits)) (s.xbBudget t)

/-- Whether a master holds the credits that a transaction needs, and none of its own is ready for that target before it. -/
def State.xbHolds (s : State) (w : XWait) : Bool :=
  decide (1 ≤ (s.xbHeld w.m w.t).1) && decide (w.dataCredits ≤ (s.xbHeld w.m w.t).2) &&
  !(s.xb.ready.any (fun v => v.m == w.m && v.t == w.t))

/-- Whether a master of class D must not issue to target `t` yet: a request of another class is pending there (R404). -/
def State.xbYields (s : State) (w : XWait) : Bool :=
  xbClass w.m == 3 && s.xb.waiting.any (fun v => v.t == w.t && !(xbClass v.m == 3))

/-- XB_OUTSTANDING_PEAK rises to `n` (R394). -/
def State.xbPeak (s : State) (m n : Nat) : State := s.setN (0x2A10 + m) 0x0A (max n (s.getN (0x2A10 + m) 0x0A))

/-- Cycles of CCLK, 1 GHz, in a span of TBC ticks. -/
def cyclesOf (ticks : Nat) : Nat := ticks * 1000 / 27

/-- A transaction at a target that grants another master only (R401): its master issues it, and it waits there, or holds it
ready, at most 32 being outstanding (R394). The first cycle of either is counted (R397, R406). -/
def State.xbHold (s : State) (w : XWait) : State :=
  let mine := (s.xb.waiting.filter (fun v => v.m == w.m)).length
  let w := { w with since := s.tbc, lacks := !s.xbHolds w }
  if w.lacks || s.xbYields w || decide (32 ≤ mine) then
    let s := if w.lacks then s.addN (0x2A10 + w.m) 5 1 else s
    { s with xb := { s.xb with ready := s.xb.ready ++ [w] } }
  else
    let s := (s.addN (0x2A10 + w.m) 4 1).xbPeak w.m (mine + 1)
    { s with xb := { s.xb with waiting := s.xb.waiting ++ [w] } }

/-- Whether a locked sequence is invalid (R401): over 8 beats, over 4 members or a single one, at T12 or T13, or with
members at different targets. -/
def State.lockInvalid (s : State) (ms : List (Nat × Nat)) : Bool :=
  let beats := (ms.map (fun p => (beatsOf p.1 p.2).length)).foldl (· + ·) 0
  let ts := ms.map (fun p => s.reqTarget p.1)
  decide (8 < beats) || decide (4 < ms.length) || ts.any (fun t => t == some 12 || t == some 13) || !(ts.all (fun t => t == ts.headD none))

/-- What a refused or failed transaction does in its master's chapter, for the input writers (R236) and the layer fetches
(R261): GATE_DENIED of the input, or of the output's composition. -/
def State.xbLearn (s : State) (m unit : Nat) (r : XResp) : State :=
  if r.code = 0 ∨ r.code = 1 then s
  else if m ≤ 3 ∧ unit < 32 then (s.setBit (0x2100 + unit) 2 9 true).count (0x2100 + unit) 8
  else if m ≤ 9 ∧ unit < 48 then s.setBit (0x2500 + unit) 6 3 true
  else s

/-- Grant a request that has waited at its target, `i` grants coming before it: performed, answered, its credits returned. -/
def State.xbGrant (s : State) (i : Nat) (w : XWait) : State :=
  let wait := (cyclesOf (s.tbc - w.since) - 1) + i / xbGrants w.t
  let s := s.addN (0x2A10 + w.m) 4 wait
  let xb := { s.xb with waiting := s.xb.waiting.erase w, ptr := tabSet 0 s.xb.ptr w.t ((w.m + 1) % 20) }
  let s : State := { s with xb := xb }
  let (s, r) := s.xbar { m := w.m, tag := w.tag, addr := w.addr, len := w.len, wr := w.wr, fetch := w.fetch, data := w.data, late := wait }
  (s.setXResp w.m r).xbLearn w.m w.unit r

/-- The request that target `t` grants next: the master that wins under R398, its oldest request first (R395). -/
def State.xbNext (s : State) (t : Nat) : Option XWait :=
  let ws := s.xb.waiting.filter (fun w => w.t == t)
  ws.find? (fun w => ws.all (fun v => v.m == w.m || s.xbBeats t (tabGet 0 s.xb.ptr t) w.m v.m))

/-- Grant up to `n` of the requests that wait at target `t`, in the order of R398. -/
def State.grantAll (s : State) (t : Nat) : Nat → Nat → State
  | 0, _ => s
  | n + 1, i =>
    match s.xbNext t with
    | none => s
    | some w => (s.xbGrant i w).grantAll t n (i + 1)

/-- Masters issue what they held ready for target `t`, their credits being back; the cycles without credits are counted. -/
def State.issueReady (s : State) (t : Nat) : State :=
  let rs := s.xb.ready.filter (fun w => w.t == t)
  let s := rs.foldl (fun s w => if w.lacks then s.addN (0x2A10 + w.m) 5 (cyclesOf (s.tbc - w.since) - 1) else s) s
  { s with xb := { s.xb with waiting := s.xb.waiting ++ rs.map (fun w => { w with since := s.tbc }),
                             ready := s.xb.ready.filter (fun w => !(w.t == t)) } }

/-- Target `t` grants again: every request that waits there is granted, then those that their masters held ready. -/
def State.drainWaiting (s : State) (t : Nat) : State :=
  let s := s.grantAll t s.xb.waiting.length 0
  if s.xb.ready.any (fun w => w.t == t) then
    let s := s.issueReady t
    s.grantAll t s.xb.waiting.length 0
  else s

/-- Whether a transaction's first access at a bank is a read-modify-write: an alias write, or one of under 32 bytes (R356,
R365). M18 writes whole words (R474). -/
def State.bankRmw (s : State) (x : XReq) : Bool :=
  match (remapAddr s.remap x.addr).map (place s.dramU) with
  | some (.sram o k) => x.wr && !(x.m == 18) && (!(k == 0) || !(o % 32 == 0) || decide (x.len < 32))
  | _ => false

/-- CROSSBAR_TRANSACTION (R403): a master's transaction is granted, checked, performed and answered. While a lock is held
at its target by another master, it waits (R401); elsewhere every request is performed within its command, so that all of
its path's credits are back (R397). -/
def execCrossbarTransaction (x : XOp) (at_ : Nat) (s : State) : Host.Outcome State Fault Refusal :=
  if !s.power.run then .next s else
  let s := s.atTime at_
  let s := match x.upset with
    | some (a, ue) => s.upset (cellAddr (place s.dramU a.toNat)) ue
    | none => s
  let m := x.m.val
  let req : XReq := { m := m, tag := x.tag.toNat, addr := x.addr.toNat, len := x.len, wr := x.wr, fetch := x.fetch, data := x.data }
  let members := x.lock.map (fun p => (p.1.toNat, p.2))
  let held := s.xb.lock.any (fun l => l.m == m)
  let perform := fun (s : State) (late : Nat) =>
    let (s, r) := s.xbar { req with late := late }
    ((s.setXResp m r).xbLearn m x.unit r)
  -- the request waits for credits, then for its grant, then for its bank
  let served := fun (s : State) (t : Nat) =>
    let s := (s.addN (0x2A10 + m) 5 x.lack).xbPeak m (x.others + 1)
    let (s, w) := s.compete t m (x.rivals.map (·.val))
    let (s, c) := if t ≤ 7 then s.bankConflicts m (s.bankRmw req) x.bankRivals else (s, 0)
    perform s (x.lack + w + c)
  match s.reqTarget req.addr with
  | none => .next (perform s 0)
  | some t =>
    if s.xb.lock.any (fun l => l.t == t && !(l.m == m)) then
      .next (s.xbHold { m := m, t := t, tag := req.tag, addr := req.addr, wr := req.wr, fetch := req.fetch, data := req.data,
                        len := req.len, unit := x.unit })
    else if !members.isEmpty && !held && (m == 12 || m == 13) then
      -- the first member of a locked sequence is checked before anything is performed (R401)
      if s.lockInvalid members then
        let s := (s.count (0x2A10 + m) 3).xbError req 6
        .next (s.setXResp m { code := 3, cause := 6, data := [] })
      else
        let s := served s t
        if members.length ≤ 1 then .next s
        else
          let l : XLock := { m := m, t := t, tag := req.tag, wr := req.wr, rest := members.drop 1 }
          .next { s with xb := { s.xb with lock := some l } }
    else
      let s := served s t
      match s.xb.lock with
      | some l =>
        if l.m = m then
          if l.rest.length ≤ 1 then .next (({ s with xb := { s.xb with lock := none } }).drainWaiting l.t)
          else .next { s with xb := { s.xb with lock := some { l with rest := l.rest.drop 1 } } }
        else .next s
      | none => .next s

/-- LOCK_BREAK (R402): a lock held for 256 cycles is ended; each member not yet performed is answered DECODE, cause 7. -/
def execLockBreak (at_ : Nat) (s : State) : Host.Outcome State Fault Refusal :=
  match s.xb.lock with
  | none => .next s
  | some l =>
    if !s.power.run then .next s else
    let s := s.atTime at_
    let s := l.rest.foldl (fun s p =>
      let x : XReq := { m := l.m, tag := l.tag, addr := p.1, len := p.2, wr := l.wr, fetch := false, data := [] }
      (s.count (0x2A10 + l.m) 3).xbError x 7) s
    let s := (s.count (0x2A10 + l.m) 8).setXResp l.m { code := 3, cause := 7, data := [] }
    let s := { s with xb := { s.xb with lock := none } }
    let a := ((l.rest.head?.bind (fun p => remapAddr s.remap p.1)).getD 0)
    .next ((s.memLog 3 l.m ((b2n l.wr <<< 7) ||| l.tag) (toLE 4 (a >>> 4))).drainWaiting l.t)

/-- CLASS_C_PROMOTION (R404): a class C request that has waited 10 µs at a target competes as class B from then on. -/
def execClassCPromotion (m : Fin 20) (t : Fin 14) (at_ : Nat) (s : State) : Host.Outcome State Fault Refusal :=
  if !s.power.run ∨ xbClass m ≠ 2 then .next s else
  let s := s.atTime at_
  let hit := fun (w : XWait) => w.m == m.val && w.t == t.val && !w.promoted
  if s.xb.waiting.any hit then
    .next (({ s with xb := { s.xb with waiting := mapIf hit (fun w => { w with promoted := true }) s.xb.waiting } }).count 0x2A00 2)
  else .next s

/-! ## DRAM (R407–R413) -/

/-- The density used for a reported one: the largest of 1, 2, 4 and 8 GiB at or below it (R407), in MiB. -/
def listedDensity (mib : Nat) : Nat :=
  if 8192 ≤ mib then 8192 else if 4096 ≤ mib then 4096 else if 2048 ≤ mib then 2048 else if 1024 ≤ mib then 1024 else 0

/-- The channel set (R409). -/
def channelSet (pass : Nat → Bool) : List Nat :=
  ([[0, 1, 2, 3], [0, 1], [2, 3], [0], [1], [2], [3]].find? (fun l => l.all pass)).getD []

/-- Data rate in MT/s (DR_RATE). -/
def dramMts (c : Nat) : Nat := [4266, 6400, 7500, 8533].getD c 8533

/-- The outcome of DRAM training (R407, R409, R410, R405): the training of the four channels ends. `codes` are the failing steps (0
pass), `densities` the reported densities in MiB. Contents are lost when the channel set changes (R414). -/
def State.dramTrained (s : State) (codes : List (Fin 6)) (densities : List Nat) : State :=
  let code := fun c => (codes.getD c 0).val
  let set := channelSet (fun c => code c == 0)
  let dens := set.map (fun c => listedDensity (densities.getD c 0))
  let d := dens.foldl min (dens.headD 0)
  let mixed := dens.any (fun x => !(x == d))
  let old := s.dram.chans
  let s := { s with dram := { s.dram with chans := set, density := d, postponed := [], patrolNext := [], selfRefresh := false } }
  let n := set.length
  let f := fun (x : Nat) => if s.dram.ecc then x * 7 / 8 else x
  let s := s.setN 0x2A30 4 (f (n * d * 0x100000))
  let s := s.setN 0x2A30 5 (set.foldl (fun a c => a ||| (1 <<< c)) 0)
  let r := dramMts s.dram.rate
  let num := if s.dram.ecc then 7 else 8
  let s := (s.setN 0x2A30 6 (n * r * 15 * num / 64)).setN 0x2A30 7 (n * r * 3 * num / 8)
  let s := (List.range 4).foldl (fun s c =>
    let st := if set.contains c then 1 else if code c = 0 then 3 else 2
    ((s.setN (0x2A40 + c) 1 st).setN (0x2A40 + c) 2 (if set.contains c then d else 0)).setN (0x2A40 + c) 3 (code c)) s
  let isD := fun (a : Nat) => decide (dramBase ≤ a)
  let s := if old = set then s
    else
      let bk := { s.bank with ue := s.bank.ue.filter (fun w => !isD (w * 32)), ce := s.bank.ce.filter (fun w => !isD (w * 32)) }
      { s with mem := s.mem.filter (fun c => !isD c.1), bank := bk }
  let s := { s with power := { s.power with dramOk := true } }
  if n < 4 || mixed then s.event 22 else s

/-- DRAM_REFRESH (R413): an interval ends; the refresh is issued, or postponed while class A requests are pending, at most
8 intervals. -/
def execDramRefresh (c : Fin 4) (classA : Bool) (s : State) : Host.Outcome State Fault Refusal :=
  if !s.power.run then .next s else
  let p := tabGet 0 s.dram.postponed c
  .next { s with dram := { s.dram with postponed := tabSet 0 s.dram.postponed c (if classA ∧ p < 8 then p + 1 else 0) } }

/-- MR4_POLL (R413): the refresh-rate field is read; `hot` says that it signals a temperature above the limit. -/
def execMr4Poll (c : Fin 4) (rate : BitVec 5) (hot : Bool) (s : State) : Host.Outcome State Fault Refusal :=
  if !s.power.run then .next s else
  let s := s.setN (0x2A40 + c) 7 rate.toNat
  .next (if hot then s.event 23 else s)

/-- DRAM_PATROL_READ (R412): the controller reads the next word of its channel; with inline ECC in use only. -/
def execDramPatrolRead (c : Fin 4) (upset : Option Bool) (at_ : Nat) (s : State) : Host.Outcome State Fault Refusal :=
  match s.dram.chans.idxOf? c.val with
  | none => .next s
  | some i =>
    if !s.power.run ∨ !s.dram.ecc ∨ s.dramU = 0 then .next s else
    let s := s.atTime at_
    let n := s.dram.chans.length
    let q := tabGet 0 s.dram.patrolNext c
    let o := ((q / 256) * n + i) * 256 + q % 256
    let a := dramBase + o
    let s := match upset with
      | some ue => s.upset a ue
      | none => s
    let nxt := if s.dramU / n ≤ q + 32 then 0 else q + 32
    let s := { s with dram := { s.dram with patrolNext := tabSet 0 s.dram.patrolNext c nxt } }
    if s.bank.ue.contains (a / 32) then
      let key := 4096 + a / 32
      let last := tabGet 0 s.ev.lastLog key
      let s := s.countUE (.dram o) a
      if last ≠ 0 ∧ s.tbc + 1 < last + Config.ticksPerSec then .next s
      else
        let s := { s with ev := { s.ev with lastLog := tabSet 0 s.ev.lastLog key (s.tbc + 1) } }
        .next (s.memLog 5 0xFF 0 (toLE 4 (a >>> 4)))
    else if s.bank.ce.contains (a / 32) then .next (s.countCE (.dram o) a)
    else .next s

/-! ## Gate overlap (R374) -/

/-- The pairs of Gates in bit order (R374). -/
def gatePairs : List (Nat × Nat) := (List.range 8).flatMap (fun i => ((List.range 8).filter (fun j => decide (i < j))).map (fun j => (i, j)))

/-- Evaluate the Gates of master `m` for overlap (R374, R469). -/
def State.gateOverlap (s : State) (m : Nat) : State :=
  let gs := s.gates m
  (List.range 28).foldl (fun s n =>
    let (i, j) := gatePairs.getD n (0, 0)
    match gs.find? (fun g => g.g == i), gs.find? (fun g => g.g == j) with
    | some a, some b =>
      if decide (max a.base b.base ≤ min a.limit b.limit) && !(s.getBit (0x2910 + m) 0x19 n) then
        (s.setBit (0x2910 + m) 0x19 n true).memLog 2 m a.tag ([BitVec.ofNat 8 i, BitVec.ofNat 8 j] ++ zeros 2)
      else s
    | _, _ => s) s

/-! ## What the bank and repair DOMAINs read (chapter 12) -/

/-- MB_BANK_STATUS (0x2903). -/
def State.bankStatus (s : State) : List Byte :=
  let cols := (recScan s.records).1.filter (fun r => !recIsBank r)
  (List.range 528).flatMap (fun p =>
    let k := s.phys p
    let free := decide (512 ≤ p) && (s.serves p).isNone
    let under := s.bank.test.any (fun t => (if t.alone || t.phase == 1 then t.spare else t.bank) == p)
    let subst := decide (p < 512) && s.bank.served.any (fun q => q.1 == p)
    let use := decide (512 ≤ p) && !free
    let failed := k.failed || (decide (p < 512) && s.bank.lfailed.contains p)
    let fl := b2n failed ||| (b2n subst <<< 1) ||| (b2n under <<< 2) ||| (b2n use <<< 3) ||| (b2n (cols.any (fun r => recBank r == p)) <<< 4)
    let link := if p < 512 then s.servedBy p else (s.serves p).getD 0xFFFF
    [BitVec.ofNat 8 (if free && !under then 2 else k.st), BitVec.ofNat 8 fl] ++ toLE 2 link ++ toLE 2 k.ce ++ toLE 2 k.ue)

/-- MT_RESULTS (0x2905). -/
def State.mtResults (s : State) : List Byte :=
  toLE 4 s.bank.gen ++ toLE 4 s.bank.passed ++ toLE 4 s.bank.failures ++ zeros 4 ++
  (List.range 528).flatMap (fun p =>
    let k := s.phys p
    toLE 8 k.rTbc ++ [k.result, k.rBack, k.rCount, 0].map (BitVec.ofNat 8) ++ toLE 2 k.rWord ++ zeros 2 ++
    (List.range 4).flatMap (fun i => toLE 2 (k.rCols.getD i 0xFFFF)) ++ zeros 8)

/-- MR_RECORDS (0x2907). -/
def State.mrRecords (s : State) : List Byte := s.records.flatMap (toLE 4)

end Sys2Proof.Machine
end

