-- ==== Sys2Proof/Machine/View.lean ====
section
/-! DEFINITION. What a READ of an object returns (R64, R81): the value table, or the block that keeps the value; owners and
the tenant access mask (R83, R84, R518); the standing epochs (R198); STAGED_PEEK (R92). -/
namespace Sys2Proof.Machine

/-! ## Owners and rights -/

/-- The output whose embedder a destination 0–383 belongs to. -/
def embedOf (idx sub : Nat) : Nat := ((idx - 0x2760) * 64 + (sub - 1)) / 8

/-- The owner an object has under a given reading of tags (R84, R518). -/
def Obj.ownerBy (o : Obj) (tag : Nat → Nat → Nat) : Nat :=
  if !o.d.mine then 0 else
  match o.own with
  | .zero => 0
  | .tag k => tag o.idx k
  | .outOf => tag (0x2200 + o.inst) 7
  | .embedder => tag (0x2200 + embedOf o.idx o.sub) 7
  | .tenant => o.inst
  | .context => tag o.idx 4

/-- The owner of an object: the tag's active value (R84). -/
def State.owner (s : State) (o : Obj) : Nat := o.ownerBy s.getN

/-- Whether the mask admits tenant `t` of an object with that owner, for a write or a read (R83). -/
def maskAdmits (mask owner t : Nat) (write : Bool) : Bool :=
  (bitAt mask 0 && t == owner) ||
  (bitAt mask (if write then 2 else 1) && t == 0 && owner != 0) ||
  bitAt mask (if write then 4 else 3)

/-- R83 without the session: mask and access class. -/
def State.admits (s : State) (t : Nat) (o : Obj) (write : Bool) : Bool :=
  maskAdmits o.d.mask (s.owner o) t write &&
  (if write then o.d.acc == .rw || o.d.acc == .rs || o.d.acc == .wo else o.d.acc != .wo)

/-- R83 whole: the tenant's session is open too. -/
def State.granted (s : State) (t : Nat) (o : Obj) (write : Bool) : Bool := (s.tenant t).session && s.admits t o write

/-! ## Staging -/

def State.stagedAt (s : State) (idx sub : Nat) : Option Staged := s.staging.find? (fun e => e.idx == idx && e.sub == sub)

/-- Entries a tenant holds (STG_MINE). -/
def State.stagedBy (s : State) (t : Nat) : Nat := (s.staging.filter (fun e => e.ten == t)).length

/-- SP_STATE and SP_VALUE of a tenant (R92). `session` says that the requester meets the session of R83: the tenant's, or for
a cue context the tag that stands in its place (R418). -/
def State.peek (s : State) (t : Nat) (session : Bool) : Nat × Nat :=
  let k := (s.tenant t).spTarget
  match findObj s.mgr (k / 256) (k % 256) with
  | none => (4, 0)
  | some o =>
    if o.d.acc != .rs then (4, 0)
    else if !session || !s.admits t o false then (3, 0)
    else match s.stagedAt (k / 256) (k % 256) with
      | none => (0, 0)
      | some e => match e.val with
        | .num v => (1, v)
        | .bytes _ => (2, 0)

/-! ## Contexts -/

def State.ctx (s : State) (x : Nat) : Ctx := tabGet {} s.cue.ctx x
def State.setCtx (s : State) (x : Nat) (c : Ctx) : State := { s with cue := { s.cue with ctx := tabSet {} s.cue.ctx x c } }

/-- Register c`i`; c0 reads 0 (R417). -/
def Ctx.reg (c : Ctx) (i : Nat) : Word := if i = 0 then 0#64 else tabGet 0#64 c.regs i
/-- Write register c`i`; writes to c0 are discarded (R417). -/
def Ctx.setReg (c : Ctx) (i : Nat) (v : Word) : Ctx := if i = 0 then c else { c with regs := tabSet 0#64 c.regs i v }

/-- CX_REGS: c0–c15, then cs. -/
def Ctx.bytes (c : Ctx) : List Byte :=
  (List.range 16).flatMap (fun i => toLE 8 (c.reg i).toNat) ++ toLE 8 c.cs

/-- The value an object of a context shows. -/
def Ctx.view (c : Ctx) (sub : Nat) : Option Val :=
  if sub = 2 then some (.num c.st)
  else if sub = 3 then some (.num c.pc)
  else if sub = 5 then some (.bytes (c.bytes.take c.size))
  else if sub = 6 then some (.num c.fault)
  else if sub = 7 then some (.num c.faultPc)
  else if sub = 8 then some (.num c.faultAddr)
  else if sub = 9 then some (.num c.wait)
  else if sub = 0x0A then some (.num c.post)
  else if sub = 0x0B then some (.num c.posts)
  else none

/-! ## Views -/

/-- EVENT_RECORD (R462). -/
def State.eventRecord (s : State) : List Byte :=
  (List.range 32).flatMap (fun b =>
    let r := tabGet ({} : EvRec) s.ev.record b
    toLE 8 r.time ++ toLE 4 r.count ++ [BitVec.ofNat 8 (b2n r.sckTime), 0#8, 0#8, 0#8])

/-- The sessions open. -/
def State.openSessions (s : State) : List Nat := (s.tenants.filter (fun p => p.2.session)).map (·.1)

/-- TN_STATUS: DEFAULT_CODE, LOCKED_OUT, SESSION_OPEN. -/
def State.tnStatus (s : State) (t : Nat) : Nat :=
  b2n (s.tenant t).session + 2 * b2n (s.lockedOut t) + 4 * b2n (s.getN (0x1380 + t) 2 == 0 && s.getN (0x1380 + t) 3 == 0)

/-- DR_CFG_PENDING: a commissioning value differs from the one in use (R408). -/
def State.dramPending (s : State) : Bool :=
  s.getN 0x2A30 1 != s.dram.rate || (s.getN 0x2A30 2 == 1) != s.dram.ecc || s.getN 0x2A30 3 != s.dram.patrolS

/-- Views of the control plane's range for tenant `t` (0x1000–0x1FFF). -/
def State.viewCtl (s : State) (t idx sub : Nat) : Option Val :=
  if idx = 0x1101 then
    if sub = 2 then some (.num s.straps.linkmode.toNat) else if sub = 3 then some (.num s.straps.addr.toNat) else none
  else if idx = 0x1102 then if sub = 6 then some (.num (s.sck % 2 ^ 48)) else none
  else if idx = 0x1103 then
    if sub = 1 then some (.num (s.queue.filter (fun e => e.cue.isNone)).length)
    else if sub = 2 then some (.num ((s.link.replay.map (·.1)).getD 0)) else none
  else if idx = 0x1110 then if sub = 1 then some (.num s.openSessions.length) else none
  else if idx = 0x1111 then some (.bytes (bitMap 16 s.openSessions))
  else if idx = 0x1220 then
    if sub = 1 then some (.num (s.tenant t).subWorker) else if sub = 2 then some (.num (s.tenant t).subTarget)
    else if sub = 4 then some (.num (s.tenant t).subResult) else none
  else if idx = 0x1221 then if sub = 1 then some (.num s.spans.mirrors.length) else none
  else if idx = 0x1301 then some (.bytes s.ev.audit.flatten)
  else if inRange idx 0x1380 128 then
    let u := idx - 0x1380
    if sub = 5 then some (.num (s.tnStatus u)) else if sub = 6 then some (.num (s.tenant u).fails)
    else if sub = 7 then some (.num (ceilDiv (s.tenant u).lock Config.ticksPerSec)) else none
  else if idx = 0x1400 then some (.num s.ev.pend)
  else if idx = 0x1402 then some (.bytes s.eventRecord)
  else if inRange idx 0x1410 5 then some (.bytes (s.logEntries (idx - 0x1410)).flatten)
  else if inRange idx 0x1420 5 then
    let l := idx - 0x1420
    if sub = 1 then some (.num (s.logSt l).held) else if sub = 2 then some (.num (s.logOldest l))
    else if sub = 3 then some (.num (s.logSt l).total) else none
  else if idx = 0x1F00 then
    if sub = 1 ∧ (s.tenant t).koEpoch ≠ 0 then some (.num (s.tenant t).koEpoch) else none
  else if idx = 0x1F08 then
    if sub = 1 ∧ (s.tenant t).whEpoch ≠ 0 then some (.num (s.tenant t).whEpoch) else none
  else if idx = 0x1F01 then
    if sub = 2 then some (.num s.staging.length) else if sub = 5 then some (.num (s.stagedBy t)) else none
  else if idx = 0x1F02 then
    if sub = 1 then some (.num (s.tenant t).spTarget) else if sub = 2 then some (.num (s.peek t (s.tenant t).session).1)
    else if sub = 3 then some (.num (s.peek t (s.tenant t).session).2) else none
  else none

/-- Views of the data plane's range (0x2000–0x2CFF). -/
def State.viewData (s : State) (idx sub : Nat) : Option Val :=
  if idx = 0x2000 then if sub = 1 then some (.num s.tbc) else none
  else if idx = 0x2001 then if sub = 3 then some (.num (putBit (s.getN 0x2001 3) 6 s.cfgPending)) else none
  else if inRange idx 0x2100 32 then
    let n := idx - 0x2100
    if s.dpMember n ∧ [8, 9, 0x11, 0x12, 0x13, 0x16].contains sub then some (.num 0)
    else if sub = 0x0B then some (.num (s.audioPresent n))
    else if sub = 0x0F then some (.num (ringBytes (s.inReserve n) (s.inDepth n) (s.inDeint n)))
    else if sub = 0x10 then some (.num (s.ringTokens n)) else none
  else if inRange idx 0x2700 16 then
    -- framing errors show for a second (SAP_STATUS [4], [5])
    if sub = 0x12 then
      let x := s.sap (idx - 0x2700)
      let recent := fun (t : Option Nat) => t.any (fun t => decide (s.tbc < t + Config.ticksPerSec))
      some (.num (putBit (putBit (s.getN idx 0x12) 4 (recent x.rxErr)) 5 (recent x.txErr))) else none
  else if idx = 0x2742 then some (.bytes s.sourceStatus)
  else if inRange idx 0x2748 16 then
    if sub = 4 ∧ s.getN idx 1 = 4 then some (.num (s.ringChannels (idx - 0x2748))) else none
  else if idx = 0x2903 then some (.bytes s.bankStatus)
  else if idx = 0x2905 then some (.bytes s.mtResults)
  else if idx = 0x2907 then some (.bytes s.mrRecords)
  else if idx = 0x2A30 then if sub = 8 then some (.num (b2n s.dramPending)) else none
  else if inRange idx 0x2B10 4 then (s.ctx (idx - 0x2B10)).view sub
  else if inRange idx 0x2C00 4 then
    let out := (s.port (idx - 0x2C00)).out
    if sub = 7 then some (.num ((out.map (·.2)).foldl (· + ·) 0)) else if sub = 9 then some (.num out.length) else none
  else none

/-- The value a READ by tenant `t` returns (R64, R81). -/
def State.view (s : State) (t idx sub : Nat) : Val :=
  match (if idx < 0x2000 then s.viewCtl t idx sub else s.viewData idx sub) with
  | some v => v
  | none => s.getV idx sub

/-- The value a DRD of a context of tenant `t` returns: the tag stands in wherever R83 asks for a session (R418). -/
def State.viewCue (s : State) (t idx sub : Nat) : Val :=
  if idx = 0x1F02 ∧ sub = 2 then .num (s.peek t true).1
  else if idx = 0x1F02 ∧ sub = 3 then .num (s.peek t true).2
  else s.view t idx sub

/-- Clear a read RC object: what the response carried is subtracted, so that later counts stay (R45, R65). -/
def State.rcClear (s : State) (idx sub carried : Nat) : State :=
  if inRange idx 0x2B10 4 then
    let c := s.ctx (idx - 0x2B10)
    s.setCtx (idx - 0x2B10) { c with posts := c.posts - carried }
  else s.setN idx sub (s.getN idx sub - carried)

/-- The record of subindex 0xFF (R66): every subindex from 0x01, DOMAINs omitted, zero bytes where the tenant may not read. -/
def State.recordOf (s : State) (t : Nat) (r : Row) (idx : Nat) : List Byte :=
  (rowObjs r idx).flatMap (fun o =>
    if o.d.ty.isDom then []
    else if !s.granted t o false then zeros o.d.ty.size
    else match o.d.ty with
      | .str => padTo 32 (s.view t idx o.sub).data
      | ty => encodeVal ty (s.view t idx o.sub))

/-- Whether the tenant may read some subindex of the record (R66). -/
def State.recordReadable (s : State) (t : Nat) (r : Row) (idx : Nat) : Bool :=
  (rowObjs r idx).any (fun o => s.granted t o false)

end Sys2Proof.Machine
end

