-- ==== Sys2Proof/Machine/CueOps.lean ====
section
/-! DEFINITION. The cue engine's instructions (chapter 14): operand forms and field rules (R427), faults (R430), memory
accesses (R428, R429), branches, waits and signals (R438, R439), blits (R440, R441), the instruction fetch with its
prefetch buffer (R419, R420), and the factory boot program (R422). Cue port requests are only posted here (R431). -/
namespace Sys2Proof.Machine

/-! ## The context as a whole -/

/-- Whether context `x` may issue: the data plane runs, the context is running and no cue port request is in progress (R416);
after a standby exit, DRAM training has ended (start-up step 9). -/
def State.issues (s : State) (x : Nat) : Bool := s.power.run && (s.power.kind != 3 || s.power.dramOk) && (s.ctx x).st == 1 && (s.ctx x).port.isNone

/-- The end of an instruction: a step halts again (R424), a halt that waited takes effect (R425). -/
def Ctx.finish (c : Ctx) : Ctx :=
  if c.step || c.halt then { c with st := 0, wait := 0, step := false, halt := false } else { c with st := 1, wait := 0 }

/-- The next instruction's address. -/
def Ctx.nextPc (c : Ctx) : Nat := (c.pc + 4) % 2 ^ 36

/-- An instruction completes with the next PC. -/
def State.cueDone (s : State) (x : Nat) (c : Ctx) : State := s.setCtx x { c with pc := c.nextPc }.finish

/-- A precise fault (R430): state 3, PC kept, the cause and PC recorded, and for causes 0x02–0x09 the address. -/
def State.cueFault (s : State) (x cause addr : Nat) : State :=
  let c := s.ctx x
  let a := if 2 ≤ cause ∧ cause ≤ 9 then addr else c.faultAddr
  let s := s.setCtx x { c with st := 3, wait := 0, step := false, halt := false, fault := cause, faultPc := c.pc, faultAddr := a }
  (s.count 0x2B00 4).event 24

/-- The tenant of a context (R418). -/
def State.ctxTen (s : State) (x : Nat) : Nat := s.getN (0x2B10 + x) 4

/-- An immediate, sign-extended and zero-extended (Encoding table). -/
def sext16 (i : BitVec 16) : Word := i.signExtend 64
def zext16 (i : BitVec 16) : Word := i.setWidth 64

/-! ## Register instructions (R427) -/

/-- rd = a function of ra and rb. -/
def State.cueAlu (s : State) (x rd ra rb : Nat) (f : Word → Word → Word) : State :=
  if !s.issues x then s else
  let c := s.ctx x
  s.cueDone x (c.setReg rd (f (c.reg ra) (c.reg rb)))

/-- rd = a function of ra and an immediate. -/
def State.cueImm (s : State) (x rd ra : Nat) (f : Word → Word) : State :=
  if !s.issues x then s else
  let c := s.ctx x
  s.cueDone x (c.setReg rd (f (c.reg ra)))

/-- Shift amounts are taken modulo 64. -/
def shamt (b : Word) : Nat := b.toNat % 64

def aluAdd (a b : Word) : Word := a + b
def aluSub (a b : Word) : Word := a - b
def aluAnd (a b : Word) : Word := a &&& b
def aluOr (a b : Word) : Word := a ||| b
def aluXor (a b : Word) : Word := a ^^^ b
def aluShl (a b : Word) : Word := a <<< shamt b
def aluShr (a b : Word) : Word := a >>> shamt b
def aluSra (a b : Word) : Word := a.sshiftRight (shamt b)
def aluMul (a b : Word) : Word := a * b
def aluSltu (a b : Word) : Word := if a.ult b then 1#64 else 0#64
def aluSlt (a b : Word) : Word := if a.slt b then 1#64 else 0#64

/-- MOVK: field `k` of the register becomes `z`. -/
def movField (v : Word) (k : Nat) (z : BitVec 16) : Word :=
  (v &&& ~~~(0xFFFF#64 <<< (16 * k))) ||| (zext16 z <<< (16 * k))

/-! ## Loads and stores (R428, R429) -/

/-- The data faults of R428: an address above 36 bits, a misaligned one. -/
def dataFault (a n : Nat) : Option Nat := if 2 ^ 36 ≤ a then some 6 else if a % n ≠ 0 then some 5 else none

/-- The fault a response other than OKAY gives on M12 (causes 0x07–0x09). -/
def respFault (code : Nat) : Nat := if code = 2 then 7 else if code = 3 then 8 else 9

/-- The data address c[ra] + sext(imm16). -/
def Ctx.addr (c : Ctx) (ra : Nat) (imm : BitVec 16) : Nat := (c.reg ra + sext16 imm).toNat

/-- A load of `n` bytes, zero-extended. -/
def State.cueLoad (s : State) (x rd ra : Nat) (imm : BitVec 16) (n : Nat) : State :=
  if !s.issues x then s else
  let a := (s.ctx x).addr ra imm
  match dataFault a n with
  | some k => s.cueFault x k a
  | none =>
    let (s, r) := s.xbRead 12 (s.ctxTen x) a n
    if r.code = 0 then s.cueDone x ((s.ctx x).setReg rd (BitVec.ofNat 64 (ofLE r.data))) else s.cueFault x (respFault r.code) a

/-- A store of the low `n` bytes of rs; it completes with its write response. -/
def State.cueStore (s : State) (x rs ra : Nat) (imm : BitVec 16) (n : Nat) : State :=
  if !s.issues x then s else
  let c := s.ctx x
  let a := c.addr ra imm
  match dataFault a n with
  | some k => s.cueFault x k a
  | none =>
    let (s, r) := s.xbWrite 12 (s.ctxTen x) a (toLE n (c.reg rs).toNat)
    if r.code = 0 then s.cueDone x (s.ctx x) else s.cueFault x (respFault r.code) a

/-- XCHG: a locked sequence of one read and one write of 8 bytes (R401, R439). A broken lock leaves the read performed and
writes no register (R402, R430). -/
def State.cueXchg (s : State) (x rd ra rb : Nat) (broken : Bool) : State :=
  if !s.issues x then s else
  let c := s.ctx x
  let a := (c.reg ra).toNat
  let t := s.ctxTen x
  match dataFault a 8 with
  | some k => s.cueFault x k a
  | none =>
    if s.lockInvalid [(a, 8)] then
      ((s.count (0x2A10 + 12) 3).xbError { m := 12, tag := t, addr := a, len := 8, wr := false, fetch := false, data := [] } 6).cueFault x 8 a
    else
      let (s, r) := s.xbRead 12 t a 8
      if r.code ≠ 0 then s.cueFault x (respFault r.code) a
      else if broken then
        let s := (s.count (0x2A10 + 12) 3).xbError { m := 12, tag := t, addr := a, len := 8, wr := true, fetch := false, data := [] } 7
        let s := (s.count (0x2A10 + 12) 8).memLog 3 12 (128 ||| t) (toLE 4 (((remapAddr s.remap a).getD 0) >>> 4))
        s.cueFault x 0x0B a
      else
        let (s, w) := s.xbWrite 12 t a (toLE 8 (c.reg rb).toNat)
        if w.code ≠ 0 then s.cueFault x (respFault w.code) a
        else s.cueDone x ((s.ctx x).setReg rd (BitVec.ofNat 64 (ofLE r.data)))

/-! ## Branches and jumps (R428) -/

/-- A taken branch or jump to `t`, writing the link register where the instruction has one: the prefetch buffer is
discarded (R420). -/
def State.cueJump (s : State) (x : Nat) (t : Word) (link : Option Nat) : State :=
  let c := s.ctx x
  if t.toNat % 4 ≠ 0 then s.cueFault x 0x0A t.toNat
  else if 2 ^ 36 ≤ t.toNat then s.cueFault x 6 t.toNat
  else
    let c := match link with
      | some rd => c.setReg rd (BitVec.ofNat 64 c.nextPc)
      | none => c
    s.setCtx x { c with pc := t.toNat, buf := [] }.finish

/-- A conditional branch. -/
def State.cueBranch (s : State) (x ra rb : Nat) (off : BitVec 16) (p : Word → Word → Bool) : State :=
  if !s.issues x then s else
  let c := s.ctx x
  if p (c.reg ra) (c.reg rb) then s.cueJump x (BitVec.ofNat 64 c.pc + (sext16 off <<< 2)) none else s.cueDone x c

def State.cueJal (s : State) (x rd : Nat) (off : BitVec 20) : State :=
  if !s.issues x then s else s.cueJump x (BitVec.ofNat 64 (s.ctx x).pc + ((off.signExtend 64) <<< 2)) (some rd)

def State.cueJalr (s : State) (x rd ra : Nat) (imm : BitVec 16) : State :=
  if !s.issues x then s else s.cueJump x ((s.ctx x).reg ra + sext16 imm) (some rd)

/-! ## Waits, signals and messages (R437–R439, R443) -/

/-- A wait begins: CX_STATE 2, PC on the wait instruction (R425). -/
def State.cueWait (s : State) (x kind on rd : Nat) : State :=
  s.setCtx x { s.ctx x with st := 2, wait := kind, waitOn := on, waitRd := rd }

def State.cueTbc (s : State) (x rd : Nat) : State :=
  if !s.issues x then s else s.cueDone x ((s.ctx x).setReg rd (BitVec.ofNat 64 s.tbc))

def State.cueWaitt (s : State) (x ra : Nat) : State :=
  if !s.issues x then s else
  let v := ((s.ctx x).reg ra).toNat
  if v ≤ s.tbc then s.cueDone x (s.ctx x) else s.cueWait x 1 v 0

/-- The output whose frame starts WAITF waits on: a gang member's leader (R438). -/
def State.waitOut (s : State) (n : Nat) : Nat :=
  if n % 4 ≠ 0 ∧ s.getN (0x2200 + n / 4 * 4) 3 = 1 then n / 4 * 4 else n

def State.cueWaitf (s : State) (x rd ra : Nat) : State :=
  if !s.issues x then s else
  let n := s.waitOut ((s.ctx x).reg ra).toNat
  let o : Output := tabGet {} s.outputs n
  if 47 < n ∨ !o.on then s.cueDone x { (s.ctx x).setReg rd 0#64 with cs := 7 }
  else s.cueWait x 2 (n + 64 * o.frames) rd

def State.cueSig (s : State) (x : Nat) (mask : BitVec 4) (z : BitVec 16) : State :=
  if !s.issues x then s else
  let s := (List.range 4).foldl (fun s k =>
    if mask.getLsbD k then s.setCtx k { s.ctx k with sig := (s.ctx k).sig ||| z.toNat } else s) s
  s.cueDone x (s.ctx x)

/-- WAITS completes: the bits are returned and cleared. -/
def State.cueTakeSig (s : State) (x rd z : Nat) : State :=
  let c := s.ctx x
  let v := c.sig &&& z
  s.cueDone x ({ c with sig := c.sig ^^^ v }.setReg rd (BitVec.ofNat 64 v))

def State.cueWaits (s : State) (x rd : Nat) (z : BitVec 16) : State :=
  if !s.issues x then s else
  if (s.ctx x).sig &&& z.toNat ≠ 0 then s.cueTakeSig x rd z.toNat else s.cueWait x 3 z.toNat rd

def State.cueGets (s : State) (x rd : Nat) : State :=
  if !s.issues x then s else s.cueDone x ((s.ctx x).setReg rd (BitVec.ofNat 64 (s.ctx x).cs))

/-- Whether KWAIT still waits (R437). -/
def State.kwaitBusy (s : State) (w : Nat) : Bool :=
  if w = 0 then [1, 3, 4].contains (s.getN 0x1F00 2) else [1, 2].contains (s.getN 0x1F08 2)

/-- KWAIT completes: the state, and cs. -/
def State.cueKwaitEnd (s : State) (x rd w : Nat) : State :=
  let v := if w = 0 then s.getN 0x1F00 2 else s.getN 0x1F08 2
  let cs := if w = 0 ∧ (v = 6 ∨ v = 7) then 0x0E else 0
  s.cueDone x { (s.ctx x).setReg rd (BitVec.ofNat 64 v) with cs := cs }

def State.cueKwait (s : State) (x rd w : Nat) : State :=
  if !s.issues x then s else if s.kwaitBusy w then s.cueWait x 4 w rd else s.cueKwaitEnd x rd w

def State.cuePost (s : State) (x v : Nat) : State :=
  if !s.issues x then s else
  let c := s.ctx x
  (s.cueDone x { c with post := v, posts := satAdd maxU32 c.posts 1 }).event 25

def State.cueNop (s : State) (x : Nat) : State := if !s.issues x then s else s.cueDone x (s.ctx x)

def State.cueHalt (s : State) (x : Nat) : State :=
  if !s.issues x then s else
  let c := s.ctx x
  s.setCtx x { c with pc := c.nextPc, st := 0, wait := 0, step := false, halt := false }

/-! ## The cue port (R431) -/

/-- Post a cue port request: the context waits for its completion (CX_WAIT 6). -/
def State.cuePort (s : State) (x op rd : Nat) (a b : Nat) : State :=
  if !s.issues x then s else
  let c := s.ctx x
  s.setCtx x { c with wait := 6, port := some { op := op, rd := rd, a := c.reg a, b := c.reg b } }

/-! ## Blits (R440, R441) -/

/-- The blit a descriptor describes; `none` where BLIT sets cs to 0x07. -/
def blitOf (x ten : Nat) (d : List Byte) : Option Blit :=
  let op := byteAt d 28
  let w := leAt d 24 2
  let h := leAt d 26 2
  let src := leAt d 0 8
  let dst := leAt d 8 8
  if 1 < op ∨ leAt d 29 3 ≠ 0 ∨ w = 0 ∨ h = 0 ∨ 2 ^ 36 ≤ dst ∨ (op = 0 ∧ 2 ^ 36 ≤ src) ∨
     (op = 1 ∧ (w % 4 ≠ 0 ∨ dst % 4 ≠ 0 ∨ leAt d 4 4 ≠ 0)) then none
  else some { x := x, ten := ten, src := src, dst := dst, srcStride := leAt d 16 4, dstStride := leAt d 20 4, width := w,
              height := h, op := op }

def State.cueBlit (s : State) (x ra : Nat) : State :=
  if !s.issues x then s else
  let a := ((s.ctx x).reg ra).toNat
  match dataFault a 32 with
  | some k => s.cueFault x k a
  | none =>
    let t := s.ctxTen x
    let (s, r) := s.xbRead 12 t a 32
    if r.code ≠ 0 then s.cueFault x (respFault r.code) a
    else if 4 ≤ (s.cue.blits.filter (fun b => b.x == x)).length then s.cueDone x { s.ctx x with cs := 8 }
    else match blitOf x t r.data with
      | none => s.cueDone x { s.ctx x with cs := 7 }
      | some b =>
        let s := { s with cue := { s.cue with blits := s.cue.blits ++ [b] } }
        s.cueDone x { s.ctx x with cs := 0 }

/-- One row of a blit, read whole before it is written: the response that stops it, if any. -/
def State.blitRow (s : State) (b : Blit) : State × Nat :=
  let (s, r) :=
    if b.op = 1 then
      (s, ({ data := (List.range b.width).map (fun i => BitVec.ofNat 8 ((b.src >>> (8 * (i % 4))) % 256)) } : XResp))
    else s.readMem 16 b.ten (b.src + b.row * b.srcStride) b.width
  if r.code ≠ 0 then (s, r.code)
  else
    let (s, w) := s.writeMem 16 b.ten (b.dst + b.row * b.dstStride) r.data
    (s, w.code)

/-- Up to `fuel` rows of the blit at the head of the queue: the blit as it stands, `none` once it has ended. -/
def State.blitRows : Nat → State → Blit → State × Option Blit
  | 0, s, b => (s, some b)
  | fuel + 1, s, b =>
    let (s, code) := s.blitRow b
    if code ≠ 0 then
      let c := s.ctx b.x
      (s.setCtx b.x { c with blitErr := if c.blitErr = 0 then (if code = 2 then 6 else 7) else c.blitErr }, none)
    else if b.height ≤ b.row + 1 then (s, none)
    else State.blitRows fuel s { b with row := b.row + 1 }

/-- BWAIT completes: cs takes the first failure since the previous BWAIT. -/
def State.cueBwaitEnd (s : State) (x : Nat) : State :=
  let c := s.ctx x
  s.cueDone x { c with cs := c.blitErr, blitErr := 0 }

def State.blitsOf (s : State) (x : Nat) : Bool := s.cue.blits.any (fun b => b.x == x)

def State.cueBwait (s : State) (x : Nat) : State :=
  if !s.issues x then s else if s.blitsOf x then s.cueWait x 5 0 0 else s.cueBwaitEnd x

/-! ## Decoding one instruction word (R427) -/

/-- Run one instruction word: an undefined opcode, a field that is not 0 where it must be, or an immediate out of range
faults with cause 0x01. -/
def State.cueRun (s : State) (x w : Nat) : State :=
  let op := bits w 31 24
  let rd := bits w 23 20
  let ra := bits w 19 16
  let rb := bits w 15 12
  let lo := bits w 11 0
  let i16 := bits w 15 0
  let imm := BitVec.ofNat 16 i16
  let ill := if s.issues x then s.cueFault x 1 0 else s
  let alu := fun f => if lo = 0 then s.cueAlu x rd ra rb f else ill
  let im := fun f => s.cueImm x rd ra f
  let sh := fun f => if i16 < 64 then s.cueImm x rd ra (fun a => f a (BitVec.ofNat 64 i16)) else ill
  let br := fun p => s.cueBranch x rd ra imm p
  -- the fields that an R-format instruction does not use are 0
  let z := fun (useD useA useB : Bool) (t : State) =>
    if (useD || rd == 0) && (useA || ra == 0) && (useB || rb == 0) && lo == 0 then t else ill
  match op with
  | 0x01 => alu aluAdd | 0x02 => alu aluSub | 0x03 => alu aluAnd | 0x04 => alu aluOr | 0x05 => alu aluXor
  | 0x06 => alu aluShl | 0x07 => alu aluShr | 0x08 => alu aluSra | 0x09 => alu aluMul | 0x0A => alu aluSltu | 0x0B => alu aluSlt
  | 0x11 => im (fun a => a + sext16 imm)
  | 0x13 => im (fun a => a &&& zext16 imm) | 0x14 => im (fun a => a ||| zext16 imm) | 0x15 => im (fun a => a ^^^ zext16 imm)
  | 0x16 => sh aluShl | 0x17 => sh aluShr | 0x18 => sh aluSra
  | 0x1A => im (fun a => aluSltu a (sext16 imm)) | 0x1B => im (fun a => aluSlt a (sext16 imm))
  | 0x1C => if 4 ≤ ra then ill else s.cueImm x rd rd (fun v => movField v ra imm)
  | 0x20 => s.cueLoad x rd ra imm 1 | 0x21 => s.cueLoad x rd ra imm 2 | 0x22 => s.cueLoad x rd ra imm 4 | 0x23 => s.cueLoad x rd ra imm 8
  | 0x28 => s.cueStore x rd ra imm 1 | 0x29 => s.cueStore x rd ra imm 2 | 0x2A => s.cueStore x rd ra imm 4 | 0x2B => s.cueStore x rd ra imm 8
  | 0x2C => if lo = 0 then s.cueXchg x rd ra rb false else ill
  | 0x30 => br (fun a b => a == b) | 0x31 => br (fun a b => a != b) | 0x32 => br (fun a b => a.slt b)
  | 0x33 => br (fun a b => !a.slt b) | 0x34 => br (fun a b => a.ult b) | 0x35 => br (fun a b => !a.ult b)
  | 0x38 => s.cueJal x rd (BitVec.ofNat 20 (bits w 19 0))
  | 0x39 => s.cueJalr x rd ra imm
  | 0x40 => z true false false (s.cueTbc x rd)
  | 0x41 => z false true false (s.cueWaitt x ra)
  | 0x42 => z true true false (s.cueWaitf x rd ra)
  | 0x43 => if ra = 0 then s.cueSig x (BitVec.ofNat 4 rd) imm else ill
  | 0x44 => if ra = 0 then s.cueWaits x rd imm else ill
  | 0x45 => z true false false (s.cueGets x rd)
  | 0x48 => z true true false (s.cuePort x op rd ra 0)
  | 0x49 => z false true true (s.cuePort x op 0 ra rb)
  | 0x4B => z false false false (s.cuePort x op 0 0 0)
  | 0x4C => z false true false (s.cuePort x op 0 ra 0)
  | 0x4D => z false true false (s.cuePort x op 0 ra 0)
  | 0x4E => if ra = 0 ∧ i16 ≤ 1 then s.cueKwait x rd i16 else ill
  | 0x50 => z false true false (s.cueBlit x ra)
  | 0x51 => z false false false (s.cueBwait x)
  | 0x52 => z false true true (s.cuePort x op 0 ra rb)
  | 0x58 => if rd = 0 ∧ ra = 0 ∧ i16 < 256 then s.cuePost x i16 else ill
  | 0x5E => z false false false (s.cueNop x)
  | 0x5F => z false false false (s.cueHalt x)
  | _ => ill

/-! ## Fetch (R419, R420) -/

/-- The fault a response other than OKAY gives on M11. -/
def fetchFault (code : Nat) : Nat := if code = 2 then 2 else if code = 3 then 3 else 4

/-- Fetch the instruction at PC, from the prefetch buffer or its 32-byte beat through M11, and run it. The buffer keeps
two beats. -/
def State.cueFetch (s : State) (x : Nat) : State :=
  if !s.issues x then s else
  let c := s.ctx x
  match c.buf.find? (fun e => e.1 == c.pc) with
  | some e => s.cueRun x e.2
  | none =>
    let a := c.pc / 32 * 32
    let (s, r) := s.xbar { m := 11, tag := s.ctxTen x, addr := a, len := 32, wr := false, fetch := true, data := [] }
    if r.code ≠ 0 then s.cueFault x (fetchFault r.code) c.pc
    else
      let beat := (List.range 8).map (fun i => (a + 4 * i, leAt r.data (4 * i) 4))
      let c := s.ctx x
      let s := s.setCtx x { c with buf := lastN 8 c.buf ++ beat }
      s.cueRun x (((beat.find? (fun e => e.1 == c.pc)).map (·.2)).getD 0)

/-! ## Host control (R424, R425) -/

/-- CX_CONTROL 1: start at CX_PC. -/
def State.cueStart (s : State) (x : Nat) : State × Nat :=
  let c := s.ctx x
  if c.st = 1 ∨ c.st = 2 then (s, 7)
  else (s.setCtx x { c with st := 1, wait := 0, fault := 0, buf := [], step := false, halt := false }, 0)

/-- CX_CONTROL 2: halt. A cue port request in progress completes first; a wait is abandoned. -/
def State.cueHaltAt (s : State) (x : Nat) : State × Nat :=
  let c := s.ctx x
  if c.st = 0 ∨ c.st = 3 then (s, 0)
  else if c.port.isSome then (s.setCtx x { c with halt := true }, 0)
  else (s.setCtx x { c with st := 0, wait := 0, step := false, halt := false }, 0)

/-- CX_CONTROL 3: one instruction of a halted context. -/
def State.cueStep (s : State) (x : Nat) : State × Nat :=
  let c := s.ctx x
  if c.st ≠ 0 then (s, 7)
  else ((s.setCtx x { c with st := 1, step := true, fault := 0, buf := [] }).cueFetch x, 0)

/-- Every context stops at standby entry (R423): a wait in progress is abandoned with PC on it, and is re-executed. -/
def State.cueFreeze (s : State) : State :=
  (List.range 4).foldl (fun s x =>
    let c := s.ctx x
    if c.st = 2 then s.setCtx x { c with st := 1, wait := 0, buf := [] } else s) s

/-! ## The factory boot program (R422) -/

/-- Context 0 ends the boot without an image: CE_BOOT_STATUS `st`, and context 0 halts, or faults for an invalid image. -/
def State.bootEnd (s : State) (st : Nat) : State :=
  let seed := s.seed
  let s := (s.setN 0x2B00 1 st).drawn
  let regs := (List.range 16).foldl (fun r i => if i = 0 then r else tabSet 0#64 r i (Config.bootReg seed i)) []
  let s := s.setCtx 0 { s.ctx 0 with pc := 0x3E000000 + 4 * (Config.bootPc seed % 0x4000), regs := regs, st := 0, buf := [] }
  if st = 3 then s.cueFault 0 0x10 0 else s

/-- The boot image checks of step 2. -/
def bootImageOk (h img : List Byte) (l : Nat) : Bool :=
  leAt h 32 4 == crc32c (h.take 32) && leAt h 4 2 == 1 && decide (leAt h 6 2 < 16) && (h.drop 36).all (fun b => b == 0#8) &&
  decide (4 ≤ l) && decide (l ≤ 4194240) && leAt h 12 4 == crc32c img &&
  (List.range 4).all (fun x => !bitAt (leAt h 6 2) x ||
    (let o := leAt h (16 + 4 * x) 4
     o % 4 == 0 && decide (64 ≤ o) && decide (o < 64 + l)))

/-- The boot program from its first instruction to its end. -/
def State.bootRun (s : State) : State :=
  let base := s.getN 0x2B00 2
  let (s, rh) := s.readMem 12 0 base 64
  let h := rh.data
  if rh.code ≠ 0 ∨ s.getN 0x2B00 3 = 0 ∨ leAt h 0 4 ≠ 0x55434B53 then s.bootEnd 2
  else
    let l := leAt h 8 4
    if l < 4 ∨ 4194240 < l then s.bootEnd 3
    else
      let (s, ri) := s.readMem 12 0 (base + 64) l
      if ri.code ≠ 0 then s.bootEnd 2
      else if !bootImageOk h ri.data l then s.bootEnd 3
      else
        let flags := leAt h 6 2
        let entry := fun x => base + leAt h (16 + 4 * x) 4
        let s := [1, 2, 3].foldl (fun s x =>
          if bitAt flags x then s.setCtx x { s.ctx x with regs := [], cs := 0, pc := entry x, st := 1, wait := 0, fault := 0, buf := [] } else s) s
        if bitAt flags 0 then
          (s.setN 0x2B00 1 1).setCtx 0 { s.ctx 0 with regs := [], cs := 0, pc := entry 0, st := 1, wait := 0, buf := [] }
        else s.bootEnd 1

end Sys2Proof.Machine
end

