-- ==== Sys2Proof/Machine/Outputs.lean ====
section
/-! DEFINITION. Output ports (chapter 9): timings, frame starts and retiming, gangs and lanes, hot plug and link training,
the safe-scene fallback. -/
namespace Sys2Proof.Machine

/-! ## Timing (R275–R278) -/

/-- Totals of a built-in timing (R275). -/
def builtinTotals (w h c : Nat) : Option (Nat × Nat) :=
  if w = 1280 ∧ h = 720 then
    if c = 8 ∨ c = 7 then some (1650, 750) else if c = 6 then some (1980, 750) else none
  else if w = 1920 ∧ h = 1080 then
    if c = 8 ∨ c = 7 ∨ c = 5 ∨ c = 4 then some (2200, 1125)
    else if c = 6 ∨ c = 3 then some (2640, 1125) else if c = 1 ∨ c = 2 then some (2750, 1125) else none
  else if w = 1920 ∧ h = 1200 then if 6 ≤ c ∧ c ≤ 8 then some (2080, 1235) else none
  else if w = 3840 ∧ h = 2160 then
    if c = 8 ∨ c = 7 ∨ c = 5 ∨ c = 4 then some (4400, 2250)
    else if c = 6 ∨ c = 3 then some (5280, 2250) else if c = 1 ∨ c = 2 then some (5500, 2250) else none
  else none

/-- The timing of a format code, totals, sync word and phase: built in while OUT_TOTALS is 0 (R275, R276). -/
def timingFrom (fm totals sync : Nat) (phase : Int) : Timing :=
  let w := fmtW fm; let h := fmtH fm; let c := fmtRate fm
  let t := (builtinTotals w h c).getD (0, 0)
  if totals = 0 then
    { w := w, h := h, ht := t.1, vt := t.2, code := c, phase := phase, hpos := true, vpos := !(w == 1920 && h == 1200) }
  else { w := w, h := h, ht := bits totals 31 16, vt := bits totals 15 0, code := c, phase := phase, hpos := bitAt sync 1, vpos := bitAt sync 0 }

/-- The active timing of an output. -/
def State.timingOf (s : State) (n : Nat) : Timing :=
  let i := 0x2200 + n
  timingFrom (s.getN i 2) (s.getN i 0x0F) (s.getN i 0x10) (toInt 32 (s.getN i 0x0A))

/-- The pixel clock in Hz, rounded (R276). -/
def Timing.pixelClock (t : Timing) : Nat := roundDiv (t.ht * t.vt * Config.ticksPerSec) (framePeriod t.code)

/-- The link rates of OUT_LINK_RATE in bit/s (R277). -/
def linkRate (r : Nat) : Nat := [1620000000, 2700000000, 5400000000, 8100000000].getD r 0

/-- The capacity test of R277 for a timing, depth, lanes and rate. -/
def linkFits (t : Timing) (bpc lanes rate : Nat) : Bool :=
  decide (t.ht * t.vt * Config.ticksPerSec * 3 * bpc * 1000 ≤ 776 * lanes * linkRate rate * framePeriod t.code)

/-! ## Gangs and lanes (R271, R272) -/

/-- Whether output n is a gang member other than the leader. -/
def State.gangMember (s : State) (n : Nat) : Bool := s.inGang n

/-- An output's leader where it is a gang member. -/
def State.leader (c : State) (n : Nat) : Nat := if c.gangMember n then n / 4 * 4 else n

/-- Whether a lower output uses lane OUTn. -/
def State.laneTaken (s : State) (n : Nat) : Bool :=
  (List.range 3).any (fun i =>
    let m := n - 1 - i
    decide (i < n) && (s.getN (0x2200 + m) 1 == 1 || s.getN (0x2200 + m) 1 == 2) && !s.gangMember m &&
      decide (n < m + (if s.getN (0x2200 + m) 3 = 1 then 4 else s.getN (0x2200 + m) 0x0B)))

/-- Whether an output runs a timing of its own. -/
def State.outActive (s : State) (n : Nat) : Bool := s.getN (0x2200 + n) 1 != 0 && !s.gangMember n

/-- GANG_MEMBER and LANE_TAKEN of the outputs of n's group of four. -/
def State.laneStatus (s : State) (n : Nat) : State :=
  (List.range 4).foldl (fun s i =>
    let m := n / 4 * 4 + i
    (s.setBit (0x2200 + m) 4 8 (s.gangMember m)).setBit (0x2200 + m) 4 9 (s.laneTaken m)) s

/-! ## Training (R282, R283) -/

def outIdx (n : Nat) : Nat := 0x2200 + n

/-- No trained link. -/
def State.untrained (s : State) (n : Nat) : State :=
  let s := ((s.setBit (outIdx n) 4 3 false).setBit (outIdx n) 4 4 false).setBit (outIdx n) 4 5 false
  s.setN (outIdx n) 0x15 0xFF00

/-- A training sequence begins; every sequence counts. -/
def State.trainStart (s : State) (n : Nat) : State :=
  let s := (s.untrained n).setBit (outIdx n) 4 2 true
  (s.count (outIdx n) 0x16).setOutput n { s.output n with retryAt := none }

/-- The (rate, lanes) pairs of a sequence in order: rates downward, then half the lanes from the highest rate again. -/
def trainOrder (rate lanes : Nat) : List (Nat × Nat) :=
  let down := fun (l : Nat) => (List.range (rate + 1)).map (fun i => (rate - i, l))
  if lanes = 4 then down 4 ++ down 2 ++ down 1 else if lanes = 2 then down 2 ++ down 1 else down 1

/-- The depth at a trained rate and lanes: the highest of 10, 8 and 6 not above OUT_BPC that fits (R282). -/
def State.pickDepth (s : State) (n rate lanes : Nat) : Option Nat :=
  [10, 8, 6].find? (fun b => decide (b ≤ s.getN (outIdx n) 0x0D) && linkFits (s.timingOf n) b lanes rate)

/-- The depth in use and its status bits, for a trained link. -/
def State.depthStatus (s : State) (n rate lanes : Nat) : State :=
  let d := s.pickDepth n rate lanes
  let s := (s.setBit (outIdx n) 4 4 (d.any (fun b => decide (b < s.getN (outIdx n) 0x0D)))).setBit (outIdx n) 4 5 d.isNone
  s.setN (outIdx n) 0x15 ((d.getD 0 <<< 16) ||| (rate <<< 8) ||| lanes)

/-- LINK_TRAINING_DONE (R282): `attempts` says which of the sequence's steps succeeded, in order; `panel` is what an eDP
panel's DPCD reports (R273). -/
def execLinkTrainingDone (n : Fin 48) (attempts : List Bool) (panel : SinkCaps) (at_ : Nat) (s : State) :
    Host.Outcome State Fault Refusal :=
  if s.getBit (outIdx n) 4 2 = false then .next s
  else
    let s := s.atTime at_
    let o := s.output n
    let o := if s.getN (outIdx n) 1 = 2 then
        { o with sinkRate := panel.rate.val, sinkLanes := panel.lanes, altScr := panel.altScrambler } else o
    let order := trainOrder (min (s.getN (outIdx n) 0x0C) o.sinkRate) (min (s.getN (outIdx n) 0x0B) o.sinkLanes)
    let s := (s.setOutput n o).setBit (outIdx n) 4 2 false
    match (order.zip attempts).find? (·.2) with
    | some ((rate, lanes), _) => .next (((s.setBit (outIdx n) 4 3 true).setBit (outIdx n) 4 12 false).depthStatus n rate lanes)
    | none =>
      let s := (s.untrained n).setBit (outIdx n) 4 12 true
      .next (s.setOutput n { s.output n with retryAt := some (s.tbc + Config.ticksPerSec) })

/-- TRAIN_RETRY_TIMER (R282): 1 s after a failed sequence. -/
def execTrainRetryTimer (n : Fin 48) (s : State) : Host.Outcome State Fault Refusal :=
  match (s.output n).retryAt with
  | none => .next s
  | some t => .next ((s.atTime t).trainStart n)

/-- HPD_PLUG (R281): the sink's DPCD and EDID are read, and training starts. The alternate scrambler seed is for eDP mode only (R273). -/
def execHpdPlug (n : Fin 48) (sink : SinkCaps) (at_ : Nat) (s : State) : Host.Outcome State Fault Refusal :=
  if !s.power.enabled ∨ s.getN (outIdx n) 1 ≠ 1 ∨ s.gangMember n ∨ s.getBit (outIdx n) 4 1 then .next s
  else
    let s := (s.atTime at_).setB (outIdx n) 0x17 (sink.edid.take 512)
    let s := (s.setBit (outIdx n) 4 1 true).setBit (outIdx n) 4 11 true
    let s := s.setOutput n { s.output n with sinkRate := sink.rate.val, sinkLanes := sink.lanes, altScr := false }
    .next (s.trainStart n)

/-- The link idles: nothing trained, nothing in training. -/
def State.linkIdle (s : State) (n : Nat) : State :=
  let s := (s.untrained n).setBit (outIdx n) 4 2 false
  s.setOutput n { s.output n with retryAt := none }

/-- HPD_UNPLUG (R281): the lanes idle, the timing runs on. -/
def execHpdUnplug (n : Fin 48) (at_ : Nat) (s : State) : Host.Outcome State Fault Refusal :=
  if !s.power.enabled ∨ s.getN (outIdx n) 1 ≠ 1 ∨ s.getBit (outIdx n) 4 1 = false then .next s
  else .next ((((s.atTime at_).linkIdle n).setBit (outIdx n) 4 1 false).setBit (outIdx n) 4 11 false)

/-- IRQ_HPD (R283): the link status is read, and a lost lock starts training. -/
def execIrqHpd (n : Fin 48) (lostLock : Bool) (at_ : Nat) (s : State) : Host.Outcome State Fault Refusal :=
  if !s.power.enabled ∨ s.getBit (outIdx n) 4 1 = false ∨ !lostLock then .next s
  else .next ((s.atTime at_).trainStart n)

/-! ## Starting, stopping, retiming (R270, R278, R279) -/

/-- The timing in use shows in OUT_PIXEL_CLOCK and CO_TILES. -/
def State.showTiming (s : State) (n : Nat) : State :=
  let t := (s.output n).tim
  (s.setN (outIdx n) 0x18 t.pixelClock).setN (0x2500 + n) 7 (tilesX t.w * tilesY t.h)

/-- An output that runs no timing: its status is 0 but for GANG_MEMBER and LANE_TAKEN. A gang member reports 0 in every other status
object too (R272). -/
def State.outputStop (s : State) (n : Nat) : State :=
  let s := (s.setOutput n { frames := (s.output n).frames }).setN (outIdx n) 4 0
  let s := ((s.setN (outIdx n) 0x18 0).setN (outIdx n) 0x15 0).setN (0x2500 + n) 6 0
  let s := (s.setN (0x2500 + n) 7 0).laneStatus n
  if s.gangMember n then
    let s := [5, 0x14, 0x16].foldl (fun s k => s.setN (outIdx n) k 0) (s.setB (outIdx n) 0x17 [])
    [8, 9, 0x0A, 0x0B, 0x0C].foldl (fun s k => s.setN (0x2500 + n) k 0) (s.setB (0x2500 + n) 0x0D (zeros 16))
  else s

/-- The link of an output that begins in its mode: a panel in eDP mode needs no plug (R273), in DP mode nothing is trained yet,
and LVDS carries 8 bits without training (R280). -/
def State.linkBegin (s : State) (n : Nat) : State :=
  let mode := s.getN (outIdx n) 1
  if mode = 2 then (s.setBit (outIdx n) 4 1 true).trainStart n
  else s.setN (outIdx n) 0x15 (if 3 ≤ mode then 0x8FF00 else 0xFF00)

/-- An output begins a timing whose first frame starts at its first grid pulse, with its phase, at or after `t` (R136). -/
def State.outputStart (s : State) (n t : Nat) : State :=
  let o := s.output n
  let tim := s.timingOf n
  let s := s.setOutput n { o with on := true, tim := tim, next := gridAtOrAfter t s.anchor (framePeriod tim.code) tim.phase, retime := none, run := 0 }
  let s := (s.setBit (outIdx n) 4 0 true).showTiming n
  ((s.laneStatus n).linkBegin n).layerStatus n

/-- The safe scene ends or begins. -/
def State.setFallback (s : State) (n k : Nat) : State :=
  let s := s.setOutput n { s.output n with fallback := k, run := 0, leave := false }
  (s.setBit (outIdx n) 4 6 (k != 0)).setBit (0x2500 + n) 6 0 (k != 0)

/-! ## Which Kickoffs an output takes part in (R287) -/

/-- The entries a Kickoff of tenant `t` carries (R187). -/
def State.carriedBy (s : State) (t : Nat) : List Staged := if t = 0 then s.staging else s.staging.filter (fun e => e.ten == t)

/-- The Kickoff's entries: none where its scope leaves this device out. -/
def State.koEntries (s : State) (k : Kick) : List Staged := if k.selfIn then s.carriedBy k.ten else []

/-- Whether an index is that of a layer engine. -/
def isLayerIdx (i : Nat) : Bool := inRange i 0x2300 96 || inRange i 0x2400 192

/-- Whether entries are for output `n`, its composition, or a layer assigned to it before or after they apply. -/
def State.ownEntries (s : State) (es : List Staged) (n : Nat) : Bool :=
  let shows := fun (o : Nat) => o != 0xFF && s.leader o == n
  es.any (fun e =>
    (inRange e.idx 0x2200 48 && s.leader (e.idx - 0x2200) == n) || (inRange e.idx 0x2500 48 && s.leader (e.idx - 0x2500) == n) ||
    (isLayerIdx e.idx && (shows (s.getN e.idx 1) || es.any (fun f => f.idx == e.idx && f.sub == 1 && (match f.val with
      | .num o => shows o
      | _ => false)))))

/-- Whether a layer has left output `n` for another whose apply point came first, so that `n` still shows it (R240). -/
def State.leftBy (s : State) (n : Nat) : Bool := (s.output n).stays.any (fun e => isLayerIdx e.1)

/-- Whether a Kickoff's apply point at output `n`, by `t`, is still to come, with entries that end its fallback. -/
def State.kickAt (s : State) (n t : Nat) : Bool :=
  match s.kick with
  | some k => k.plan.any (fun q => q.1 == .output n && decide (q.2 ≤ t)) && (s.ownEntries (s.koEntries k) n || s.leftBy n)
  | none => false

/-- An output takes up its entries at its apply point `t` (R270, R279, R283, R287). `mode` and `link` say that OUT_MODE, or
OUT_LANES, OUT_LINK_RATE or OUT_BPC, changed; `own` that the Kickoff carries entries for the output, its composition or its layers:
a fallback on underruns ends and the run of frames with underruns restarts, the frame that ends here not counting any more. -/
def State.outputTake (s : State) (n t : Nat) (mode link own : Bool) : State :=
  let o := s.output n
  if s.outActive n = false then s.outputStop n
  else if o.on = false then s.outputStart n t
  else
    let tim := s.timingOf n
    let s := if own && o.fallback == 1 then s.setFallback n 0 else s
    let s := if own then s.setOutput n { s.output n with run := 0, fresh := decide (o.start < t) } else s
    let s := if tim = o.tim then s
      else
        let nx := gridAtOrAfter t s.anchor (framePeriod tim.code) tim.phase
        (s.setOutput n { s.output n with next := nx, retime := some nx }).setBit (outIdx n) 4 10 true
    let s := if mode then ((((s.linkIdle n).setBit (outIdx n) 4 1 false).setBit (outIdx n) 4 11 false).linkBegin n)
      else if link && s.getBit (outIdx n) 4 1 then s.trainStart n
      else if s.getBit (outIdx n) 4 3 then s.depthStatus n (bits (s.getN (outIdx n) 0x15) 15 8) (bits (s.getN (outIdx n) 0x15) 7 0)
      else s
    (s.laneStatus n).layerStatus n

/-! ## Frame start (R264, R278, R285–R288) -/

/-- The fallback decision at a frame start (R286–R288). Where the apply point of a Kickoff for the output falls on the same frame start,
the run of frames with underruns restarts from zero, whichever of the two comes first. -/
def State.fallbackStep (s : State) (n : Nat) : State :=
  let o := s.output n
  let i := outIdx n
  let force := s.getN i 0x13 == 1
  let run := if o.fallback ≠ 0 ∨ o.under.isEmpty ∨ o.fresh ∨ s.kickAt n o.next then 0 else o.run + 1
  let s := s.setOutput n { o with run := run, fresh := false }
  if o.fallback = 0 then
    if force then (s.setFallback n 2).event 15
    else if s.getN i 0x12 ≠ 0 ∧ s.getN i 0x12 ≤ run then (s.setFallback n 1).event 15
    else s
  else if force then s
  else if o.fallback = 2 ∨ o.leave then s.setFallback n 0
  else s

/-- OUTPUT_FRAME_START (R278): the output's next frame start. A new timing begins with its first frame (R279). -/
def execOutputFrameStart (n : Fin 48) (s : State) : Host.Outcome State Fault Refusal :=
  let o := s.output n
  if !s.power.enabled ∨ o.on = false then .next s
  else
    let s := s.atTime o.next
    let s := if s.power.firstFrame then s
      else { (s.setN 0x1500 0x0A (min maxU32 ((s.tbc - s.power.startTbc) / Config.ticksPerMs))) with power := { s.power with firstFrame := true } }
    let tim := if o.retime.isSome then s.timingOf n else o.tim
    let p := framePeriod tim.code
    -- the flags of the frame that ends (R261, R285)
    let s := s.setBit (outIdx n) 4 7 (!o.under.isEmpty)
    let s := s.setBit (0x2500 + n) 6 3 (!o.denied.isEmpty)
    let s := (s.shownLayers n).foldl (fun s l => s.lStatus l 3 (o.denied.any (fun d => d.1 == l.id))) s
    let s := s.fallbackStep n
    let o2 := s.output n
    let o2 := { o2 with tim := tim, retime := none, start := o.next, next := o.next + p, frames := o.frames + 1 }
    let s := s.setOutput n { o2 with under := [], denied := [], segs := [], prev := [], segY := 0, zones := [] }
    let s := if o.retime.isSome then (s.setBit (outIdx n) 4 10 false).showTiming n else s
    let s := ((s.takeGain n).layerStatus n).releaseLeft n o.next
    let k := (Int.ofNat o.next - Int.ofNat s.anchor - tim.phase) / Int.ofNat p
    .next (s.embedFrame n k.toNat o.retime.isSome)

/-- A write of OUT_FORCE_SAFE is applied (R287, R288): 1 then 0 also ends a fallback on underruns. -/
def State.forceSafe (s : State) (n v : Nat) : State :=
  let o := s.output n
  let o := if v = 1 then { o with sawForce := true }
    else { o with leave := o.leave || (o.sawForce && o.fallback != 0), sawForce := false }
  (s.setOutput n o).setN (outIdx n) 0x13 v

end Sys2Proof.Machine
end

