-- ==== Sys2Proof/Machine/Channel.lean ====
section
/-! DEFINITION. Control blocks, packets, channels and their credits (R148–R152), and the frames that travel in CTRL packets (R168). -/
namespace Sys2Proof.Machine

/-- CRC-8 over bytes 0–6 of a control block (R148). -/
def crc8 (l : List Byte) : Nat :=
  l.foldl (fun c b => (List.range 8).foldl (fun c _ => if c ≥ 128 then (2 * c % 256) ^^^ 0x07 else 2 * c) (c ^^^ b.toNat)) 0

/-- A control block from bytes 0–6. -/
def ctrlBlock (l : List Byte) : List Byte := padTo 7 l ++ [BitVec.ofNat 8 (crc8 (padTo 7 l))]

/-! ## The block code (R145) -/

/-- Bits through the scrambler x^58 + x^39 + 1: `v` holds the last 58 bits sent, the newest in bit 0. -/
def scramble (v : BitVec 58) : List Bool → BitVec 58 × List Bool
  | [] => (v, [])
  | b :: t =>
    let o := (b ^^ v.getLsbD 38) ^^ v.getLsbD 57
    let r := scramble ((v <<< 1) ||| (if o then 1#58 else 0#58)) t
    (r.1, o :: r.2)

/-- A byte's bits, the least significant first. -/
def byteBits (b : Byte) : List Bool := (List.range 8).map b.getLsbD

/-- The bits of a block in the order they go out: the sync header, 01 for data and 10 for control, as it is, then the bytes
scrambled (log entry 116). -/
def wireBits (v : BitVec 58) (b : Blk) : BitVec 58 × List Bool :=
  let r := scramble v (b.bytes.flatMap byteBits)
  (r.1, b.ctl :: (!b.ctl) :: r.2)

/-- The next block of a port's stream: block k goes to lane k mod L. -/
def Port.emit1 (x : Port) (b : Blk) : Port :=
  let l := x.blocks % max 1 x.lanes
  let r := wireBits (x.scr.getD l 0#58) b
  { x with blocks := x.blocks + 1, scr := x.scr.set l r.1, wire := x.wire ++ [(l, r.2)] }

/-- A transmission of blocks. -/
def Port.emit (x : Port) (bs : List Blk) : Port := bs.foldl Port.emit1 { x with wire := [] }

def idleBlk : Blk := { ctl := true, bytes := ctrlBlock [0x1E#8] }

/-- IDLE blocks up to the next block slot, in which every lane has a block to send. -/
def Port.toSlot (x : Port) : List Blk := List.replicate ((max 1 x.lanes - x.blocks % max 1 x.lanes) % max 1 x.lanes) idleBlk

/-- Send a control block: it goes out after the blocks `pad`, and the port keeps a record of the block last sent under that key
(its type, or type and channel or lane). -/
def State.sendAfter (s : State) (p key : Nat) (pad : List Blk) (l : List Byte) : State :=
  let x := s.port p
  if x.lanes = 0 then s
  else s.setPort p (Port.emit { x with sent := tabSet [] x.sent key (ctrlBlock l) } (pad ++ [{ ctl := true, bytes := ctrlBlock l }]))

def State.sendBlock (s : State) (p key : Nat) (l : List Byte) : State := s.sendAfter p key [] l

/-- The blocks of a packet (R149): SOP, ceil(L/8) data blocks, the last padded with 0x00, and EOP. -/
def packetBlocks (ch : Nat) (k : Packet) : List Blk :=
  let n := k.data.length
  let sop := ctrlBlock ([0x78#8, BitVec.ofNat 8 ch, if k.more then 0x80#8 else 0#8] ++ toBE 2 n ++ [BitVec.ofNat 8 k.seq])
  let eop := ctrlBlock ([0x87#8] ++ toBE 4 (crc32c k.data))
  { ctl := true, bytes := sop } :: (List.range (ceilDiv n 8)).map (fun i => { ctl := false, bytes := padTo 8 ((k.data.drop (8 * i)).take 8) : Blk }) ++
    [{ ctl := true, bytes := eop }]

/-! ## Channels (R150–R153) -/

/-- The credit budget of a channel, in 64-byte credits; 0 where there is no such channel. -/
def chanBudget (ch : Nat) : Nat := if ch = 0 then 72 else if ch = 1 then 16 else if ch = 2 then 64 else if 8 ≤ ch ∧ ch ≤ 15 then 128 else 0
def reliable (ch : Nat) : Bool := decide (ch ≤ 2)
/-- Credits a packet of `l` bytes needs (R150). -/
def credits (l : Nat) : Nat := ceilDiv l 64

def Port.chan (x : Port) (ch : Nat) : Chan := tabGet {} x.chans ch
def Port.setChan (x : Port) (ch : Nat) (c : Chan) : Port := { x with chans := tabSet {} x.chans ch c }

/-- The credit a sender has (R151). -/
def Chan.available (c : Chan) (ch : Nat) : Nat := chanBudget ch - ((c.consumed + 65536 - c.freed % 65536) % 65536)

/-- Start waiting packets while there is credit for all of each and at most 16 are unacknowledged (R150, R152); the packets
started, in order. -/
def Chan.pump (ch now : Nat) : Nat → Chan → Chan × List Packet
  | 0, c => (c, [])
  | fuel + 1, c =>
    match c.waiting with
    | [] => (c, [])
    | k :: rest =>
      if c.available ch < credits k.data.length ∨ (reliable ch ∧ 16 ≤ c.unacked.length) then (c, [])
      else
        let k := { k with seq := c.seq }
        let r := Chan.pump ch now fuel { c with waiting := rest, seq := (c.seq + 1) % 256, consumed := (c.consumed + credits k.data.length) % 65536,
                                                progress := if c.unacked.isEmpty then now else c.progress,
                                                unacked := if reliable ch then c.unacked ++ [k] else [] }
        (r.1, k :: r.2)

/-- The packets of a message (R149). -/
def packetsOf (msg : List Byte) : List Packet :=
  let n := max 1 (ceilDiv msg.length 512)
  (List.range n).map (fun i => { seq := 0, more := decide (i + 1 < n), data := (msg.drop (512 * i)).take 512 })

/-- Put the blocks of packets on the wire, if there are any. -/
def Port.emitPackets (x : Port) (ch : Nat) (ks : List Packet) : Port := if ks.isEmpty then x else x.emit (ks.flatMap (packetBlocks ch))

/-- A channel as given, once what can start has been sent. -/
def State.chanPump (s : State) (p ch : Nat) (c : Chan) : State :=
  let r := c.pump ch s.tbc c.waiting.length
  s.setPort p (((s.port p).setChan ch r.1).emitPackets ch r.2)

/-- Send a message on a channel of a port; a port that is down sends nothing. -/
def State.chanSend (s : State) (p ch : Nat) (msg : List Byte) : State :=
  if (s.port p).lanes = 0 then s else
  let c := (s.port p).chan ch
  s.chanPump p ch { c with waiting := c.waiting ++ packetsOf msg }

/-- A CREDIT block for a channel: cumulative credits freed and the next sequence expected (R151, R152). -/
def State.sendCredit (s : State) (p ch : Nat) : State :=
  let c := (s.port p).chan ch
  s.sendBlock p (0x66 * 256 + ch) ([0x66#8, BitVec.ofNat 8 ch] ++ toBE 2 (c.gave % 65536) ++ [BitVec.ofNat 8 c.expect_])

/-- This worker's upstream port. -/
def State.upPort (s : State) : Option Nat := let p := s.getN 0x1200 4; if p ≤ 3 then some p else none

/-- Send a message towards a worker below this device. -/
def State.sendDown (s : State) (w ch : Nat) (msg : List Byte) : State :=
  match s.spans.members.find? (fun m => m.addr == w) with
  | some m => s.chanSend m.port ch msg
  | none => s

def State.sendUp (s : State) (ch : Nat) (msg : List Byte) : State :=
  match s.upPort with
  | some p => s.chanSend p ch msg
  | none => s

/-! ## Frames in CTRL packets (R168) -/

/-- Bytes 1 to 9 + N of a request frame (chapter 2, Frame layout). -/
def frameBody (ty : Nat) (f : Frame) : List Byte :=
  [f.mgr, f.wrk, BitVec.ofNat 8 (ty * 16 + f.seq.toNat)] ++ toBE 2 f.index.toNat ++ [f.sub, f.ten] ++ toBE 2 f.len.toNat ++ f.payload

/-- Bytes 1 to the end of the CRC, as received. -/
def wireBytes (ty : Nat) (f : Frame) : List Byte := frameBody ty f ++ toBE 4 f.crc.toNat

/-- A frame that this manager makes for a worker: its own bus address, the sequence of the present round, a correct CRC. -/
def State.makeFrame (s : State) (w ty idx sub ten : Nat) (payload : List Byte) : Frame :=
  let f : Frame := { mgr := BitVec.ofNat 8 s.straps.addr.toNat, wrk := BitVec.ofNat 8 w, seq := BitVec.ofNat 4 s.spans.round, index := BitVec.ofNat 16 idx,
                     sub := BitVec.ofNat 8 sub, ten := BitVec.ofNat 8 ten, len := BitVec.ofNat 16 payload.length, payload := payload,
                     crc := 0#32, inTime := false, gap := 0 }
  { f with crc := BitVec.ofNat 32 (crc32c (frameBody ty f)) }

/-- The same frame for each of several workers, all issued together (R190); the next round takes the next sequence, so that no
worker takes a later frame for a replay (R52; log entry 39). -/
def State.makeRound (s : State) (ws : List Nat) (ty idx sub ten : Nat) (payload : List Byte) : State :=
  let s := ws.foldl (fun s w => s.sendDown w 0 (wireBytes ty (s.makeFrame w ty idx sub ten payload))) s
  if ws.isEmpty then s else { s with spans := { s.spans with round := (s.spans.round + 1) % 16 } }

/-- Relay a frame towards a worker. -/
def State.relayTo (s : State) (w ty : Nat) (f : Frame) : State := s.sendDown w 0 (wireBytes ty f)

end Sys2Proof.Machine
end

