-- ==== Sys2Proof/Machine/Store.lean ====
section
/-! DEFINITION. The persistent store (R99–R110): the image of the P objects, the sectors and their wear, a save, the
restore, the erase of the image; and the value table after each kind of start (R99). -/
namespace Sys2Proof.Machine

/-! ## Images (R103) -/

/-- The bytes of a value in memory order (R4). -/
def leVal (ty : Ty) (v : Val) : List Byte :=
  match ty with
  | .str | .dom _ => v.data
  | t => toLE t.size v.nat

/-- One record: index, subindex, reserved byte, length, value, padding to 4 bytes. -/
def recordBytes (idx sub flag : Nat) (v : List Byte) : List Byte :=
  let r := toLE 2 idx ++ [BitVec.ofNat 8 sub, BitVec.ofNat 8 flag] ++ toLE 2 v.length ++ v
  r ++ zeros ((4 - r.length % 4) % 4)

/-- An image: the 64-byte header and the records. -/
def imageBytes (kind count : Nat) (recs : List Byte) : List Byte :=
  let h := toLE 2 1 ++ [BitVec.ofNat 8 kind, 0#8] ++ toLE 4 count ++ toLE 4 (64 + recs.length) ++ toLE 4 (crc32c recs) ++ zeros 44
  h ++ toLE 4 (crc32c h) ++ recs

/-- The records of a record area: (index, subindex, reserved byte, value); `none` where they do not fill it exactly. -/
def recordsOf : Nat → List Byte → Option (List (Nat × Nat × Nat × List Byte))
  | 0, l => if l.isEmpty then some [] else none
  | fuel + 1, l =>
    if l.isEmpty then some [] else
    let n := leAt l 4 2
    let len := 6 + n + (4 - (6 + n) % 4) % 4
    if l.length < 6 ∨ l.length < len then none
    else (recordsOf fuel (l.drop len)).map (fun t => (leAt l 0 2, byteAt l 2, byteAt l 3, (l.drop 6).take n) :: t)

/-- The records of a valid image of a kind (R103); `none` for an invalid one. -/
def imageRecords (kind : Nat) (l : List Byte) : Option (List (Nat × Nat × Nat × List Byte)) :=
  let b := leAt l 8 4
  let area := (l.drop 64).take (b - 64)
  if leAt l 0 2 = 1 ∧ byteAt l 2 = kind ∧ 64 ≤ b ∧ b ≤ l.length ∧ leAt l 60 4 = crc32c (l.take 60) ∧ leAt l 12 4 = crc32c area then
    match recordsOf area.length area with
    | some rs => if rs.length = leAt l 4 4 then some rs else none
    | none => none
  else none

/-- The objects of the value table that a predicate selects, as (object, value). -/
def State.listed (s : State) (p : Obj → Bool) : List (Obj × Val) :=
  s.objs.filterMap (fun kv =>
    match findObj s.mgr (kv.1 / 256) (kv.1 % 256) with
    | some o => if p o then some (o, kv.2) else none
    | none => none)

/-- The persistent image of the active values (R100, R103). -/
def State.pImage (s : State) : List Byte :=
  let l := s.listed (fun o => o.d.p)
  imageBytes 0 l.length (l.flatMap (fun ov => recordBytes ov.1.idx ov.1.sub 0 (leVal ov.1.d.ty ov.2)))

/-! ## Sectors (R104, R105, R107) -/

def State.sector (s : State) (k : Nat) : Sector := tabGet {} s.mtp.sectors k
def State.setSector (s : State) (k : Nat) (x : Sector) : State := { s with mtp := { s.mtp with sectors := tabSet {} s.mtp.sectors k x } }

/-- The numbers of the good sectors. -/
def State.goodSectors (s : State) : List Nat := (List.range 128).filter (fun k => !(s.sector k).retired)

/-- The sequence numbers of the copies whose first sector carries the valid marker, highest first. -/
def State.copies (s : State) : List Nat :=
  let l := (s.mtp.sectors.filter (fun p => p.2.marker == 1 && p.2.pos == 0 && !p.2.bad)).map (fun p => p.2.seq)
  l.mergeSort (fun a b => decide (b ≤ a))

/-- The sectors of a copy in order of position, `none` where one is missing or its CRC fails (R105). -/
def State.copySectors (s : State) (seq : Nat) : Option (List Nat) :=
  match s.mtp.sectors.find? (fun p => p.2.seq == seq && p.2.pos == 0 && p.2.marker == 1 && !p.2.bad) with
  | none => none
  | some f =>
    (List.range f.2.cnt).foldr (fun i acc =>
      match acc, s.mtp.sectors.find? (fun p => p.2.seq == seq && p.2.pos == i && p.2.cnt == f.2.cnt && !p.2.bad && p.2.crc == crc32c p.2.data) with
      | some l, some p => some (p.1 :: l)
      | _, _ => none) (some [])

/-- The image of a copy that is valid under R105. -/
def State.copyImage (s : State) (seq : Nat) : Option (List Byte) :=
  match s.copySectors seq with
  | none => none
  | some ks =>
    let l := ks.flatMap (fun k => padTo 2016 (s.sector k).data)
    let b := leAt l 8 4
    if (imageRecords 0 (l.take b)).isSome then some (l.take b) else none

/-- The newest valid copy. -/
def State.newestCopy (s : State) : Option Nat := s.copies.find? (fun q => (s.copyImage q).isSome)

/-- The store's status objects 0x1510.02–.07. -/
def State.storeShow (s : State) : State :=
  let q := s.newestCopy
  let img := (q.bind s.copyImage).getD []
  let n := ((q.bind s.copySectors).getD []).length
  let er := (List.range 128).map (fun k => (s.sector k).erases)
  let s := ((s.setN 0x1510 2 (q.getD 0)).setN 0x1510 3 img.length).setN 0x1510 4 n
  let s := s.setN 0x1510 5 ((s.goodSectors.map (fun k => (s.sector k).erases)).foldl max 0)
  (s.setN 0x1510 6 (er.foldl (· + ·) 0 / 128)).setN 0x1510 7 s.goodSectors.length

/-- Erase, program and verify one sector (R104); wear and retirement (R107). -/
def State.programSector (s : State) (k : Nat) (bad : Bool) (seq pos cnt : Nat) (data : List Byte) : State :=
  let x := s.sector k
  let er := x.erases + 1
  let s := s.setSector k { seq := seq, pos := pos, cnt := cnt, erases := er, crc := crc32c data, marker := 0, data := data,
                           retired := bad || decide (100000 ≤ er), bad := bad }
  if er = 90001 then s.event 28 else s

/-- Program the sectors of a copy, one after another, from the sectors that may be chosen: `low` sectors are programmed
before a supply falls below its minimum. The result: the first sector, or the refusal cause. -/
def State.programCopy (s : State) (seq cnt : Nat) (bad : List Nat) : Nat → Option Nat → List Nat → Nat → List (List Byte) → State × (Nat ⊕ Nat)
  | _, some 0, _, _, _ => (s, .inr 2)
  | first, _, _, _, [] => (s, .inl first)
  | _, _, [], _, _ :: _ => (s, .inr 4)
  | first, low, k :: ks, pos, d :: ds =>
    if bad.contains k then (s.programSector k true seq pos cnt d).programCopy seq cnt bad first (low.map (· - 1)) ks pos (d :: ds)
    else (s.programSector k false seq pos cnt d).programCopy seq cnt bad (if pos = 0 then k else first) (low.map (· - 1)) ks (pos + 1) ds

/-- The payloads of an image's sectors. -/
def sectorPayloads (l : List Byte) : List (List Byte) :=
  (List.range (ceilDiv l.length 2016)).map (fun i => padTo 2016 ((l.drop (2016 * i)).take 2016))

/-- The good sectors outside the newest valid copy, in the order in which a save chooses them (R104). -/
def State.saveChoice (s : State) : List Nat :=
  let held := (s.newestCopy.bind s.copySectors).getD []
  (s.goodSectors.filter (fun k => !held.contains k)).mergeSort
    (fun a b => decide ((s.sector a).erases < (s.sector b).erases) || ((s.sector a).erases == (s.sector b).erases && decide (a ≤ b)))

/-- The sequence number of a new copy: one above every number in the store (log entry 85). -/
def State.nextSeq (s : State) : Nat := 1 + (s.mtp.sectors.map (fun p => p.2.seq)).foldl max 0

/-- Write a new copy of an image (R104, R108): the state after, and the refusal cause (0 none). `bad` sectors fail verify; a
supply falls below its programming minimum after `low` sectors. -/
def State.saveImage (s : State) (img : List Byte) (bad : List Nat) (low : Option Nat) : State × Nat :=
  let pl := sectorPayloads img
  let free := s.saveChoice
  if low = some 0 then (s, 2)
  else if 56 < pl.length then (s, 3)
  else if free.length < pl.length then (s, 4)
  else
    match s.programCopy s.nextSeq pl.length bad 0 low free 0 pl with
    | (s, .inr c) => (s, c)
    | (s, .inl f) =>
      let s := s.setSector f { s.sector f with marker := 1 }
      ((s.setN 0x1510 0x0A s.tbc), 0)

/-- A save that a reset or a loss of power interrupts (R105): the sectors for which its 8 ms each have passed are programmed, the
one in progress is erased and holds nothing whole, and no marker is written; the wear stays. Which sectors of such a save
fail their verify is not known; none is taken to (log entry 85). -/
def State.saveCut (s : State) : State :=
  match s.mtp.saving with
  | none => s
  | some img =>
    let pl := sectorPayloads img
    let free := s.saveChoice
    let seq := s.nextSeq
    let s := { s with mtp := { s.mtp with saving := none } }
    if 56 < pl.length ∨ free.length < pl.length then s else
    let done := (s.tbc - s.mtp.since) / (8 * Config.ticksPerMs)
    let (s, _) := s.programCopy seq pl.length [] 0 none free 0 (pl.take done)
    if done < pl.length then
      let k := free.getD done 0
      let s := s.programSector k false seq done pl.length []
      s.setSector k { s.sector k with bad := true }
    else s

/-- Invalidate the marker words of both copies (R110). -/
def State.eraseImage (s : State) : State :=
  let off := fun (p : Nat × Sector) => if p.2.marker = 1 then (p.1, { p.2 with marker := 2 }) else p
  let s := { s with mtp := { s.mtp with sectors := s.mtp.sectors.map off } }
  s.storeShow

/-! ## Starts (R99, R106) -/

/-- Whether an object keeps its value through a data-plane reset: control-plane objects do. -/
def isDataObj (k : Nat) : Bool := dataPlane (k / 256)

/-- Install records of an image: those of P objects in the range asked for. -/
def State.install (s : State) (all : Bool) (rs : List (Nat × Nat × Nat × List Byte)) : State :=
  rs.foldl (fun s r =>
    match findObj s.mgr r.1 r.2.1 with
    | some o =>
      if o.d.p && (all || dataPlane r.1) then
        match o.d.ty with
        | .str | .dom _ => s.setB r.1 r.2.1 r.2.2.2
        | _ => s.setN r.1 r.2.1 (ofLE r.2.2.2)
      else s
    | none => s) s

/-- The restore of the MTP image (R106): the newest copy held, or the older, or the defaults. `all` installs the
control plane's objects too (power-on). -/
def State.restore (s : State) (all : Bool) : State :=
  match s.copies with
  | [] => s.setN 0x1510 8 0
  | q :: rest =>
    match (s.copyImage q).bind (imageRecords 0) with
    | some rs => (s.install all rs).setN 0x1510 8 1
    | none =>
      match (rest.head?.bind s.copyImage).bind (imageRecords 0) with
      | some rs => ((s.install all rs).setN 0x1510 8 2).event 27
      | none => (s.setN 0x1510 8 3).event 27

end Sys2Proof.Machine
end

