-- ==== Sys2Proof/Machine/KoBase.lean ====
section
/-! DEFINITION. What several chapters do to the Kickoff state machine and the bridge queue: the frozen states (R184), the
completion of a bridge request (R19, R52, R58, R63), the ends of a Kickoff and of a Whistle (R183, R188, R192, R200), epochs
(R196, R197), and the Kickoff log (R470). -/
namespace Sys2Proof.Machine

def State.koState (s : State) : Nat := s.getN 0x1F00 2
def State.whState (s : State) : Nat := s.getN 0x1F08 2

/-- Whether the staged set is frozen (KO_STATE 1–4). -/
def State.frozen (s : State) : Bool := [1, 2, 3, 4].contains s.koState

/-! ## Saves (R102, R108, R109) -/

/-- Work that the bridge performs in its order; the rest waits for workers or for apply points. -/
def Job.plain : Job → Bool
  | .read _ _ | .write _ _ _ | .blockRead _ _ _ _ _ | .blockWrite _ _ _ _ _ | .logRead _ _ _ | .save | .erase | .standby
  | .mrProgram _ | .neighbourTest => true
  | .prepare | .kickoff _ _ | .whistle _ _ | .rollCall | .subAct _ _ _ _ | .relay _ _ _ | .relayAll _ _ _ _ _ => false

/-- The bridge's next work in order. -/
def State.nextPlain (s : State) : Option BEntry := s.queue.find? (fun e => e.res.isNone && e.job.plain)

/-- A save whose turn has come takes its snapshot (R102), unless a Kickoff is prepared and has not completed; an erase whose turn
has come shows in ST_STATE until it ends (R110). -/
def State.savePump (s : State) : State :=
  match s.nextPlain with
  | some e =>
    if e.job == .save && s.power.open_ && s.mtp.saving.isNone && !([2, 3, 4].contains s.koState) then
      ({ s with mtp := { s.mtp with saving := some s.pImage, since := s.tbc } }).setN 0x1510 1 1
    else if e.job == .erase && s.power.open_ then s.setN 0x1510 1 2
    else s
  | none => s

/-! ## Completing bridge requests -/

/-- LB_STATUS, and LB_REFUSED for a frame to all workers, of the last broadcast, while the record is still its own (R63). -/
def State.lbResult (s : State) (echo : Nat) (r : Res) (all : Bool) : State :=
  if s.getN 0x1108 1 ≠ echo then s
  else
    let s := s.setN 0x1108 2 r.status
    if all then s.setN 0x1108 5 (byteAt r.payload 1) else s

def Job.isAll : Job → Bool
  | .relayAll _ _ _ _ _ => true
  | _ => false

def State.dropEntry (s : State) (i : Nat) : State := { s with queue := s.queue.eraseIdx i }

/-- A broadcast's work completes (R62, R63). Its own part and its relay part are two entries of one echo byte: the first that
ends waits for the other, and the own status comes first in the combined one. -/
def State.completeBcast (s : State) (i : Nat) (e : BEntry) (r : Res) : State :=
  let pair := fun (d : BEntry) => d.bcast && d.echo == e.echo && d.job.isAll != e.job.isAll
  match s.queue.find? pair with
  | none =>
    let r := if r.status = 0 then { r with status := e.alt } else r
    (s.dropEntry i).lbResult e.echo r e.job.isAll
  | some d =>
    if e.job.isAll then { s with queue := s.queue.set i { e with res := some r } }
    else
      let k := s.queue.findIdx pair
      match d.job, d.res with
      | .relayAll own ty f ws outs, none =>
        let d := { d with job := .relayAll (if r.status = 0 then own else r.status) ty f ws outs }
        ({ s with queue := s.queue.set k d }).dropEntry i
      | _, some q =>
        let q := if r.status = 0 then q else { q with status := r.status }
        (({ s with queue := s.queue.filter (fun x => !(x == d) && !(x == e)) })).lbResult e.echo q true
      | _, none => s.dropEntry i

/-- A queue entry's result (R19): the record of a broadcast takes it (R63), else it is held and DEFERRED_READY is set (R58). The
replay record is cleared where it still holds a request of this device's own that was refused (R52). -/
def State.completeEntry (s : State) (i : Nat) (e : BEntry) (r : Res) : State :=
  let s := if r.status ≠ 0 ∧ e.job.isAll = false ∧ s.link.replay = some (e.echo, e.crc) then { s with link := { s.link with replay := none } } else s
  match e.cue with
  | some x =>
    let s := s.dropEntry i
    s.cueDone x { s.ctx x with cs := r.status, port := none }
  | none =>
    if e.bcast ∧ s.mgr then s.completeBcast i e r
    else
      -- a worker's broadcast is recorded and its result collected all the same (R62)
      let s := if e.job.isAll || e.bcast then s.lbResult e.echo r e.job.isAll else s
      ({ s with queue := s.queue.set i { e with res := some r } }).event 0

/-- The same, and the save that waits behind it begins. -/
def State.finishEntry (s : State) (i : Nat) (e : BEntry) (r : Res) : State := (s.completeEntry i e r).savePump

/-- Complete the oldest incomplete entry that satisfies `p`. -/
def State.complete (s : State) (p : BEntry → Bool) (r : Res) : State :=
  let hit := fun e => e.res.isNone && p e
  match s.queue.find? hit with
  | some e => s.finishEntry (s.queue.findIdx hit) e r
  | none => s

def isPrepareJob (e : BEntry) : Bool := e.job == .prepare
def isKickoffJob (e : BEntry) : Bool := match e.job with
  | .kickoff _ _ => true
  | _ => false
def isWhistleJob (e : BEntry) : Bool := match e.job with
  | .whistle _ _ => true
  | _ => false

/-! ## Ends of a Kickoff -/

/-- KD_CODE of a check (R192). -/
def checkCode (c : Nat) : Nat :=
  if c = 0 then 0 else if c = 0x10 ∨ c = 0x14 then 0x07 else if c = 0x11 ∨ c = 0x13 then 0x0A else if c = 0x12 then 0x06 else 0x0E

/-- An entry of the Kickoff log (R470). -/
def State.koLog (s : State) (st ten : Nat) : State :=
  let time := if st = 5 then s.getN 0x1F00 1 else s.tbc
  let fl := s.getN 0x1F03 7
  (s.dpLog 4 time st (4 * (fl % 2) + 8 * (fl / 2 % 2))
    ([ten, s.getN 0x1F03 1].map (BitVec.ofNat 8) ++ toLE 4 (s.getN 0x1F00 3))).1

/-- The refusal report: KO_REFUSAL and KO_DETAIL (R192). -/
def State.koReport (s : State) (dev : Nat) (r : Refuse) : State :=
  let s := s.setN 0x1F00 3 ((dev <<< 24) ||| (r.check <<< 16) ||| min 0xFFFF r.demand)
  let s := ((s.setN 0x1F03 1 (checkCode r.check)).setN 0x1F03 2 r.inst).setN 0x1F03 3 r.demand
  (s.setN 0x1F03 4 r.cap).setN 0x1F03 5 r.obj

/-- Release the workers of a Kickoff's scope: each gets a relayed KO_ABANDON of the same tenant (R183; log entry 29). -/
def State.koRelease (s : State) : State :=
  match s.kick with
  | none => s
  | some k => s.makeRound k.scope 2 0x1F00 5 k.ten [1#8]

/-- A Kickoff ends in state 6 or 7: the result completes 0x0E, every reservation in scope is released (R183, R188). -/
def State.koFail (s : State) (st : Nat) : State :=
  let s := s.koRelease
  let ten := (s.kick.map (·.ten)).getD 0
  let s := (({ s with kick := none }).setN 0x1F00 2 st).event 14
  let s := s.koLog st ten
  ((s.complete isPrepareJob { status := 0x0E, payload := [] }).complete isKickoffJob { status := 0x0E, payload := [] }).savePump

/-- Refused (R183, R192). -/
def State.koRefused (s : State) (dev : Nat) (r : Refuse) : State := (s.koReport dev r).koFail 6

/-- Abandoned by the host in state 1 or 2 (R183). -/
def State.koAbandoned (s : State) : State :=
  (if s.koState = 1 then s.koReport 0 { check := 0x15 } else s).koFail 7

/-- The last apply point in scope has been reached (R183). -/
def State.koFinish (s : State) : State :=
  match s.kick with
  | none => s
  | some k =>
    if [3, 4].contains s.koState ∧ !k.waits ∧ k.plan.isEmpty ∧ k.armed.isEmpty then
      let s := ({ s with kick := none }).setN 0x1F00 2 5
      ((s.koLog 5 k.ten).complete isKickoffJob { status := 0, payload := [] }).savePump
    else s

/-- The Whistle's last apply point has been reached. -/
def State.whFinish (s : State) : State :=
  match s.whis with
  | none => s
  | some w =>
    if !w.waits ∧ w.plan.isEmpty ∧ w.armed.isEmpty then
      (({ s with whis := none }).setN 0x1F08 2 3).complete isWhistleJob { status := 0, payload := [] }
    else s

/-- A worker leaves (R200): while preparing the device still waits for every other answer (R192), prepared it refuses at once. What the
manager has lost by its own stop is decided at its next start (R201). -/
def State.koLeave (s : State) (w : Nat) : State :=
  let s := match s.kick with
    | none => s
    | some k =>
      if [1, 2].contains s.koState then
        if k.lost || !k.scope.contains w || k.left.contains w then s
        else if s.koState = 1 then { s with kick := some { k with left := k.left ++ [w] } }
        else s.koRefused 0 { check := 0x13, inst := w }
      else if k.armed.contains w then
        (({ s with kick := some { k with armed := k.armed.filter (fun a => a != w) } }).count 0x1F03 8).koFinish
      else s
  match s.whis with
  | none => s
  | some h => ({ s with whis := some { h with armed := h.armed.filter (fun a => a != w) } }).whFinish

/-! ## Epochs (R196, R197) -/

/-- The rate codes of the active outputs. -/
def State.activeCodes (s : State) : List Nat :=
  ((List.range 48).filter s.outActive).map (fun n => fmtRate (s.getN (0x2200 + n) 2))

/-- A grid pulse of one of the rate codes within ±54 ticks of `e`. -/
def nearPulse (a e : Nat) (cs : List Nat) : Option Nat :=
  cs.findSome? (fun c =>
    let p := framePeriod c
    let up := gridAtOrAfter e a p 0
    if up - e ≤ 54 then some up else if p - (up - e) ≤ 54 then some (up - p) else none)

/-- The relative-epoch guard (R196): while a pulse lies within ±54 ticks, the epoch becomes that pulse plus 55 ticks. -/
def epochGuard (a : Nat) (cs : List Nat) : Nat → Nat → Nat
  | 0, e => e
  | fuel + 1, e =>
    match nearPulse a e cs with
    | some g => epochGuard a cs fuel (g + 55)
    | none => e

/-- The epoch in use and whether it is late (R196, R197); a worker keeps the epoch its manager sent (R199). -/
def State.epochFor (s : State) (e : Option Nat) (relayed : Bool) : Nat × Bool :=
  let soon := s.tbc + s.getN 0x1F00 6
  match e with
  | some v => if relayed then (v, decide (v < s.tbc)) else if v < soon then (soon, true) else (v, false)
  | none => (epochGuard s.anchor s.activeCodes 1000 soon, false)

/-- KD_FLAGS.LATE and its event (R197, R199). -/
def State.koLate (s : State) : State := (s.setBit 0x1F03 7 0 true).event 12

end Sys2Proof.Machine
end

