-- ==== Sys2Proof/Machine/Lamps.lean ====
section
/-! DEFINITION. Lamp channels (chapter 11) and zone statistics as their source (R263): Glide, temperature, derating, the
board budget, the dimming law, PWM and probes, verdicts, shorts, the neighbour test, the gate watchdog (R473). -/
namespace Sys2Proof.Machine

def State.lamp (s : State) (c : Nat) : Lamp := tabGet {} s.lamps.ch c
def State.setLamp (s : State) (c : Nat) (x : Lamp) : State := { s with lamps := { s.lamps with ch := tabSet {} s.lamps.ch c x } }
def lampIdx (c : Nat) : Nat := 0x2800 + c

/-- Full scale. -/
def lampFull : Nat := 0x01000000
/-- 12.5 % of full scale. -/
def lampEighth : Nat := 0x00200000

/-- A bit of LC_STATUS. -/
def State.lampBit (s : State) (c i : Nat) : Bool := s.getBit (lampIdx c) 8 i
def State.setLampBit (s : State) (c i : Nat) (b : Bool) : State := s.setBit (lampIdx c) 8 i b

/-- A lamp log entry (R468) and what goes with it: LC_FAULT_LOG_INDEX, LC_FAULT_COUNT, the event. -/
def State.lampLog (s : State) (c kind nb : Nat) : State :=
  let tail := [BitVec.ofNat 8 kind, BitVec.ofNat 8 nb] ++ toLE 2 (s.getN (lampIdx c) 0x14) ++ toLE 2 (s.getN (lampIdx c) 0x15)
  let (s, seq) := s.dpLog 2 s.tbc c 0 tail
  let s := match seq with
    | some q => s.setN (lampIdx c) 9 q
    | none => s
  (s.count (lampIdx c) 0x18).event 18

/-! ## Glide (R333, R334) -/

/-- Lightness of a level, in fixed point (R333). -/
def lightness (g : Nat) : Int :=
  let y := fxOf (Int.ofNat g) / 2 ^ 24
  if 8856 * fxOne / 1000000 < y then 116 * fxCbrt y - 16 * fxOne else y * 9033 / 10

/-- The level of a lightness. -/
def unlightness (l : Int) : Nat :=
  let lim := 8856 * fxOne / 1000000 * 9033 / 10
  let y := if lim < l then
      let r := (l + 16 * fxOne) / 116
      fxMul (fxMul r r) r
    else l * 10 / 9033
  (fxRound (y * 2 ^ 24)).toNat

/-- G of a fade at TBC t (R333): G_0 at the apply point t_0 itself, the curve at each later evaluation. -/
def Fade.at (f : Fade) (t : Nat) : Nat :=
  let len := f.ms * Config.ticksPerMs
  if f.ms = 0 ∨ f.t0 + len ≤ t then f.g1
  else if t ≤ f.t0 then f.g0
  else
    let u := fxDiv (Int.ofNat (t - f.t0)) (Int.ofNat len)
    let a := Int.ofNat f.g0; let b := Int.ofNat f.g1
    let v : Nat := match f.curve with
      | 0 => (roundDivI (a * Int.ofNat len + (b - a) * Int.ofNat (t - f.t0)) len).toNat
      | 1 => unlightness (lightness f.g0 + fxMul (lightness f.g1 - lightness f.g0) u)
      | 2 =>
        let la := fxLn (fxOf (max 1024 a)); let lb := fxLn (fxOf (max 1024 b))
        (fxRound (fxExp (la + fxMul (lb - la) u))).toNat
      | _ => (fxRound (fxOf a + (b - a) * ((fxOne - fxCosPi u) / 2))).toNat
    min lampFull v

/-- Whether a fade has reached its end. -/
def Fade.done (f : Fade) (t : Nat) : Bool := f.ms == 0 || decide (f.t0 + f.ms * Config.ticksPerMs ≤ t)

/-- The present Glide level. -/
def Lamp.level (x : Lamp) (t : Nat) : Nat :=
  match x.fade with
  | some f => f.at t
  | none => x.g

/-- A channel whose level is held at 0: open, shorted or in shutoff (R347, R350, R338). -/
def State.zeroed (s : State) (c : Nat) : Bool := (s.lamp c).opened || s.lampBit c 5 || s.lampBit c 13

/-- The target of a fade (R334): 0 when disabled, the content-follow target when following, else LC_TARGET. -/
def State.lampTarget (s : State) (c : Nat) : Option Nat :=
  if s.getN (lampIdx c) 1 = 0 then some 0
  else if s.getN (lampIdx c) 0x0A ≠ 0xFFFF then (s.lamp c).target
  else some (s.getN (lampIdx c) 2)

/-- Start a fade at t from level g0; a follower without a target yet holds its level (R343). -/
def State.fadeStart (s : State) (c t g0 : Nat) : State :=
  let x := s.lamp c
  match s.lampTarget c with
  | none => s.setLamp c { x with g := g0, fade := none }
  | some g1 => s.setLamp c { x with g := g0, fade := some { t0 := t, g0 := g0, g1 := g1, ms := s.getN (lampIdx c) 3, curve := s.getN (lampIdx c) 4 } }

/-! ## Temperature (R335–R339) -/

/-- The temperature of a sensor code in 0.1 °C (none without a sensor or before the first mean), and its fault. -/
def State.sensor (s : State) (k : Nat) : Option Int × Bool :=
  if k < 8 then
    if s.getN (0x2850 + k) 1 = 0 then (none, true)
    else
      let st := s.getN (0x2850 + k) 6
      if bitAt st 1 || bitAt st 2 then (none, true)
      else if bitAt st 0 then (some (toInt 16 (s.getN (0x2850 + k) 5)), false) else (none, false)
  else if k = 8 then (some s.power.die, false)
  else (none, false)

/-- Compensation factor at a temperature (R337). -/
def classFactor (l : List Byte) (t : Int) : Nat :=
  let f := fun (i : Nat) => leAt l (2 * i) 2
  if t ≤ -400 then f 0
  else if 1250 ≤ t then f 15
  else
    let u := (t + 400).toNat
    (Int.ofNat (f (u / 110)) + roundDivI ((Int.ofNat (f (u / 110 + 1)) - Int.ofNat (f (u / 110))) * Int.ofNat (u % 110)) 110).toNat

/-- Derating factor at a temperature (R338): knee in °C, slope in 0.01 %/°C, floor in %. -/
def derate (t : Int) (knee slope floor_ : Nat) : Nat :=
  let excess := t - 10 * Int.ofNat knee
  if excess ≤ 0 then 0x8000
  else
    let a := roundDiv (32768 * floor_) 100
    let drop := Int.ofNat slope * excess
    if 100000 ≤ drop then a else max a (roundDiv (32768 * (100000 - drop).toNat) 100000)

/-- Steps 2 to 4 of an evaluation: k, d, shutoff and sensor faults (R337–R339). -/
def State.lampTemp (s : State) (c : Nat) : State :=
  let i := lampIdx c
  let x := s.lamp c
  let sel := s.getN i 6
  let (t, fault) := s.sensor sel
  let floor_ := s.getN 0x2860 4
  let cls := s.getN i 5
  let s := if fault && !s.lampBit c 14 then (s.setLampBit c 14 true).lampLog c 8 0xFF else s.setLampBit c 14 fault
  if fault then s.setLamp c { x with d := roundDiv (32768 * floor_) 100 }
  else match t with
    | none => (s.setLamp c { x with k := 0x8000, d := 0x8000 }).setN i 0x16 0
    | some t =>
      let k := if cls = 0xFF then 0x8000 else classFactor (s.getB (0x2840 + cls) 1) t
      let s := (s.setLamp c { x with k := max 1 k, d := derate t (s.getN 0x2860 2) (s.getN 0x2860 3) floor_ }).setN i 0x16 (ofInt 16 t)
      if !s.lampBit c 13 && decide (1250 ≤ t) then (s.setLampBit c 13 true).lampLog c 9 0xFF
      else if s.lampBit c 13 && decide (t ≤ 1150) then ((s.setLampBit c 13 false).lampLog c 10 0xFF).fadeStart c s.tbc 0
      else s

/-- THERMISTOR_SAMPLE (R336): each thermistor's 12-bit code and the die sensor. A temperature is computed from 16 samples. -/
def State.thermTemp (s : State) (k : Nat) : State :=
  let l := tabGet [] s.lamps.therm k
  let i := 0x2850 + k
  if l.length < 16 then s
  else
    let sum := l.foldl (· + ·) 0
    let full := 4096 * 16
    if 98 * full < 100 * sum then s.setN i 6 2
    else if 100 * sum < 2 * full then s.setN i 6 4
    else
      -- r / TH_R25 with r = 10000 · v / (1.80 − v)
      let ratio := fxDiv (Int.ofNat (10000 * sum)) (Int.ofNat ((full - sum) * s.getN i 2))
      let inv := fxDiv 100 29815 + fxLn ratio / Int.ofNat (max 1 (s.getN i 3))
      let t := fxDiv fxOne inv - 27315 * fxOne / 100
      let t10 := fxRound (t * 10) + toInt 16 (s.getN i 4)
      (s.setN i 5 (ofInt 16 (clampInt (-32768) 32767 t10))).setN i 6 1

def execThermistorSample (codes : List (BitVec 12)) (die : Int) (at_ : Nat) (s : State) : Host.Outcome State Fault Refusal :=
  if !s.power.run then .next s
  else
    let s := s.atTime at_
    let s := ({ s with power := { s.power with die := die } }).setN 0x2860 0x0D (ofInt 16 die)
    .next ((List.range 8).foldl (fun s k =>
      if s.getN (0x2850 + k) 1 = 0 then
        let lm := { s.lamps with therm := tabSet [] s.lamps.therm k [] }
        ({ s with lamps := lm }).setN (0x2850 + k) 6 0
      else
        let l := ((codes.getD k 0#12).toNat :: tabGet [] s.lamps.therm k).take 16
        let lm := { s.lamps with therm := tabSet [] s.lamps.therm k l }
        ({ s with lamps := lm }).thermTemp k) s)

/-! ## Drive (R330, R340, R341) -/

/-- I_max in mA is 1,000,000 / LC_RSENSE; the DAC code of a level (R326, R330). -/
def dacOf (l iset rsense : Nat) : Nat := min 1023 (roundDiv (1023 * l * iset * rsense) (2 ^ 24 * 1000000))

/-- The level L of a current fraction in 2^-39 (R330). -/
def levelOf (x : Nat) : Nat := roundDiv x 0x8000

/-- The level of a channel. -/
def Lamp.lev (x : Lamp) : Nat := levelOf x.x

/-- The drive of a current fraction (R330). -/
def State.driveOf (s : State) (c x : Nat) : Drive :=
  let iset := s.getN (lampIdx c) 7; let rs := s.getN (lampIdx c) 0x10
  let l := levelOf x
  if l = 0 then {}
  else if lampEighth ≤ l then { mode := 2, dac := dacOf l iset rs, duty := 0, cur := x * iset }
  else { mode := 1, dac := dacOf lampEighth iset rs, duty := l >>> 5, cur := x * iset }

/-- Whether a channel has no current: not yet enabled, or held off by a fault or shutoff. -/
def State.lampHeld (s : State) (c : Nat) : Bool := !s.power.enabled || s.zeroed c || s.lampBit c 15

/-- Priority of a channel's tenant (R340). -/
def State.lampPrio (s : State) (c : Nat) : Nat := byteAt (s.getB 0x2861 0) (s.getN (lampIdx c) 0x0B)

/-- The budget (R340): demands are in 2^-24 mA, one per channel; the factor of each priority, 0x8000 where untouched. -/
def budgetScale (dem : List (Nat × Nat)) : Nat → Nat → List (Nat × Nat)
  | 0, _ => []
  | n + 1, excess =>
    let p := 7 - n
    let gd := (dem.filter (fun q => q.1 == p)).foldl (fun a q => a + q.2) 0
    if excess ≤ gd then [(p, if gd = 0 then 0x8000 else 32768 * (gd - excess) / gd)]
    else (p, if gd = 0 then 0x8000 else 0) :: budgetScale dem n (excess - gd)

/-- The verdict of a channel at TBC t (R346): 0 good, 1 open, 2 unverified, 3 off; `on` is LC_ENABLE. -/
def Lamp.verdict (x : Lamp) (on : Bool) (t : Nat) : Nat :=
  if x.opened then 1
  else if x.lev = 0 ∨ on = false then 3
  else if (x.lastPass.any (fun p => decide (t < p + 500 * Config.ticksPerMs))) && decide (x.fails < 8) then 0 else 2

/-- Show the verdict; good that becomes unverified is logged (R349). -/
def State.showVerdict (s : State) (c : Nat) : State :=
  let v := (s.lamp c).verdict (s.getN (lampIdx c) 1 == 1) s.tbc
  let was := bits (s.getN (lampIdx c) 8) 4 3
  let s := (s.setLampBit c 3 (bitAt v 0)).setLampBit c 4 (bitAt v 1)
  let since := ((s.lamp c).lastPass).getD s.lamps.since
  let s := s.setN (lampIdx c) 0x17 (min maxU32 ((s.tbc - since) / Config.ticksPerSec))
  if was = 0 ∧ v = 2 then s.lampLog c 11 0xFF else s

/-- The gate held low and the level 0. -/
def Lamp.dark (x : Lamp) : Lamp := { x with g := 0, fade := none, x1 := 0, x := 0, drive := {}, rise := none, on := 0, duty := 0 }

/-- One measurement (R345–R347): eight failures in a row are an open verdict. -/
def State.measure (s : State) (c : Nat) (pass : Bool) : State :=
  let x := s.lamp c
  if x.opened then s
  else if pass then s.setLamp c { x with fails := 0, lastPass := some s.tbc }
  else if x.fails + 1 < 8 then s.setLamp c { x with fails := x.fails + 1 }
  else
    let y := { x.dark with fails := 8, opened := true, retryAt := s.tbc + Config.ticksPerSec }
    (((s.setLamp c y).setN (lampIdx c) 0x12 0).setN (lampIdx c) 0x13 0).lampLog c 1 0xFF

/-- String voltage from the voltage at LVMON (R350). -/
def State.stringMv (s : State) (lvmon : Nat) : Nat := min 0xFFFF (s.getN 0x2860 7 - lvmon * s.getN 0x2860 8 / 100)

/-- 10 ms in ticks. -/
def tenMs : Nat := 270000

/-- The short tests of a lamp tick (R350). Below 12.5 % the flags keep their values. -/
def State.shortTest (s : State) (c lvmon : Nat) : State :=
  let x := s.lamp c
  let vn := s.getN (lampIdx c) 0x11
  if vn = 0 ∨ x.lev < lampEighth then s.setLamp c { x with b25 := none, b85 := none, a85 := none }
  else
    let vs := s.stringMv lvmon
    let s := s.setN (lampIdx c) 0x15 vs
    let t := s.tbc
    let since := fun (o : Option Nat) => o.getD t
    let low25 := decide (4 * vs < vn)
    let low85 := decide (100 * vs < 85 * vn)
    if low25 && decide (since x.b25 + tenMs ≤ t) then
      let y := { x.dark with b25 := none, b85 := none, a85 := none, retestAt := t + 10 * Config.ticksPerSec }
      let s := (s.setLamp c y).setLampBit c 5 true
      ((s.setN (lampIdx c) 0x12 0).setN (lampIdx c) 0x13 0).lampLog c 3 0xFF
    else
      let y := { x with b25 := if low25 then some (since x.b25) else none,
                        b85 := if low85 then some (since x.b85) else none,
                        a85 := if low85 then none else some (since x.a85) }
      let s := s.setLamp c y
      if low85 && decide (since x.b85 + tenMs ≤ t) && !s.lampBit c 6 then (s.setLampBit c 6 true).lampLog c 5 0xFF
      else if !low85 && decide (since x.a85 + tenMs ≤ t) then s.setLampBit c 6 false
      else s

/-- Whether a channel asks for a PWM locked to an output, or its gang's leader, that does not run (R332). -/
def State.pwmUnlocked (s : State) (c : Nat) : Bool :=
  let o := s.getN (lampIdx c) 0x0F
  o != 0xFF && !s.getBit (0x2200 + s.leader o) 4 0

/-- FOLLOWING and FOLLOW_STALE (R342, R343). -/
def State.followBits (s : State) (c : Nat) : State :=
  let z := s.getN (lampIdx c) 0x0A
  let o := z / 256
  let on := z != 0xFFFF
  (s.setLampBit c 9 on).setLampBit c 10 (on && (!s.getBit (0x2200 + o) 4 0 || s.getBit (0x2200 + o) 4 6))

/-- Step 1 and step 5 of a channel's evaluation. -/
def State.lampLevel (s : State) (c : Nat) : State :=
  let s := s.lampTemp c
  let x := s.lamp c
  -- a follow target that waits starts its fade now
  let s := match x.fresh with
    | some g => if s.zeroed c then s else
      let y := { x with target := some g, fresh := none }
      (s.setLamp c y).fadeStart c s.tbc (x.level s.tbc)
    | none => s
  let x := s.lamp c
  let g := if s.zeroed c then 0 else x.level s.tbc
  let fade := if s.zeroed c then none else x.fade.filter (fun f => !f.done s.tbc)
  let gk := roundDiv (g * x.k) 32768
  let x1 := if s.lampHeld c then 0 else min lampFull (roundDiv (gk * x.d) 32768)
  let s := s.setLamp c { x with g := g, fade := fade, x1 := x1 }
  ((s.setN (lampIdx c) 0x12 g).setLampBit c 1 fade.isSome).setLampBit c 12 (decide (x.d < 0x8000))

/-- Steps 7 to 9 of a channel's evaluation under its budget factor; a rise waits (R341). -/
def State.lampDrive (s : State) (c sc : Nat) : State :=
  let x := s.lamp c
  -- x′ × s in 2^-39 is exact, so that the sum of the currents stays within the budget (R340)
  let v := if s.lampHeld c then 0 else x.x1 * sc
  let d := if v = 0 then 0 else roundDiv v x.k
  let dr := s.driveOf c v
  let released := x.held && dr.mode != 0
  let up := decide (x.drive.cur < dr.cur)
  let y := { x with x := v, sc := sc, held := false, drive := if up then x.drive else dr, rise := if up then some dr else none }
  let s := ((s.setLamp c y).setN (lampIdx c) 0x13 d).setLampBit c 11 (decide (sc < 0x8000))
  let s := (s.setLampBit c 2 (decide (0 < levelOf v) && decide (levelOf v < lampEighth))).setLampBit c 0 (dr.mode != 0)
  if released then (s.event 30).lampLog c 12 0xFF else s

/-- The budget factors of every channel, in order (R340). -/
def State.budget (s : State) : List Nat :=
  let b := s.getN 0x2860 1 * 2 ^ 24
  let dem := (List.range 48).map (fun c => (s.lampPrio c, (s.lamp c).x1 * s.getN (lampIdx c) 7))
  let total := dem.foldl (fun a q => a + q.2) 0
  if b = 0 ∨ total ≤ b then List.replicate 48 0x8000
  else
    let f := budgetScale dem 8 (total - b)
    dem.map (fun q => match f.find? (fun e => e.1 == q.1) with
      | some e => e.2
      | none => 0x8000)

/-- An evaluation of every channel at the present TBC (R328). -/
def State.lampEval (s : State) (tick : Bool) : State :=
  if !s.power.enabled then s
  else
    let s := (List.range 48).foldl State.lampLevel s
    let f := s.budget
    let s := (List.range 48).foldl (fun s c => s.lampDrive c (f.getD c 0x8000)) s
    let total := (List.range 48).foldl (fun a c => a + (s.lamp c).x * s.getN (lampIdx c) 7) 0
    let s := s.setN 0x2860 0x0B (roundDiv total (2 ^ 39))
    let lm := { s.lamps with evalAt := s.tbc }
    let s := { s with lamps := lm }
    let s := if tick && f.any (fun v => decide (v < 0x8000)) then s.count 0x2860 0x0C else s
    (List.range 48).foldl (fun s c => (s.followBits c).showVerdict c) s

/-- LAMP_TICK (R328): the next lamp tick A + j·27,000, with what each channel's pins show. In analogue mode the tick takes
a measurement (R345). -/
def execLampTick (meas : List LampMeas) (s : State) : Host.Outcome State Fault Refusal :=
  if !s.power.enabled then .next s
  else
    let t := samplePeriodAt s.anchor 1000 (match s.lamps.now with
      | some t => t + 1
      | none => s.tbc)
    let s := s.atTime t
    let lm := { s.lamps with now := some t }
    let s := { s with lamps := lm }
    let s := (List.range 48).foldl (fun s c =>
      let m := meas.getD c { pass := false, current := 0, lvmon := 0 }
      let s := s.setN (lampIdx c) 0x14 (if (s.lamp c).drive.mode = 0 then 0 else min 0xFFFF m.current)
      let s := if (s.lamp c).drive.mode = 2 then s.measure c m.pass else s
      s.shortTest c m.lvmon) s
    .next (s.lampEval true)

/-- 50 µs in ticks. -/
def riseAfter : Nat := 1350

/-- BUDGET_RISE_APPLY (R341): the rises of the last evaluation are applied, at least 50 µs after it. -/
def execBudgetRiseApply (at_ : Nat) (s : State) : Host.Outcome State Fault Refusal :=
  if !s.power.enabled then .next s
  else
    let s := s.atTime (max at_ (s.lamps.evalAt + riseAfter))
    .next ((List.range 48).foldl (fun s c =>
      let x := s.lamp c
      match x.rise with
      | some d => s.setLamp c { x with drive := d, rise := none }
      | none => s) s)

/-! ## PWM and probes (R331, R332, R348) -/

/-- The timing a channel's PWM is locked to, of the gang's leader where it names a member; `none` while it runs free (R331, R332). -/
def State.pwmLock (s : State) (c : Nat) : Option Timing :=
  let o := s.leader (s.getN (lampIdx c) 0x0F)
  let t := (s.output o).tim
  if 48 ≤ o ∨ s.getBit (0x2200 + o) 4 0 = false ∨ t.vt = 0 then none else some t

/-- Lines in a locked period: N = max(1, floor(f_line / 25,000 + 0.5)) with f_line = 27e6·vt / P_c (R331). -/
def pwmLines (t : Timing) : Nat :=
  let p := framePeriod t.code
  max 1 ((2 * 27000000 * t.vt + 25000 * p) / (2 * 25000 * p))

/-- Period of a channel's PWM as a fraction of microseconds: 40 free-running, or N line periods (R331). -/
def State.pwmPeriod (s : State) (c : Nat) : Nat × Nat :=
  match s.pwmLock c with
  | none => (40, 1)
  | some t => (pwmLines t * framePeriod t.code, t.vt * 27)

/-- When a channel's next PWM period starts. A locked one starts c/48 of a period after a line start of the output, the common starts being
every N lines of its grid (R331); a free-running one by its own clock, `at_`. -/
def State.pwmStart (s : State) (c at_ : Nat) : Nat :=
  match s.pwmLock c with
  | none => at_
  | some t =>
    let np := Int.ofNat (pwmLines t * framePeriod t.code)
    let base := Int.ofNat s.anchor + t.phase
    -- period j starts at base + (48·j + c)·N·P_c / (48·vt)
    let due := (Int.ofNat (max at_ s.tbc) - base) * Int.ofNat (48 * t.vt)
    let j := -((-(due - Int.ofNat c * np)) / (48 * np))
    (base + (48 * j + Int.ofNat c) * np / Int.ofNat (48 * t.vt)).toNat

/-- PWM_PERIOD_START (R330, R348): a period of channel c begins with the duty in force, or a probe pulse, and is measured. -/
def execPwmPeriodStart (c : Fin 48) (m : LampMeas) (at_ : Nat) (s : State) : Host.Outcome State Fault Refusal :=
  let x := s.lamp c
  if !s.power.enabled then .next s
  else
    let s := s.atTime (s.pwmStart c at_)
    let s := s.setLampBit c 8 (s.pwmUnlocked c)
    if x.drive.mode ≠ 1 ∨ x.held then .next ((s.setLamp c { x with on := 0, duty := 0, block := 0 }).setLampBit c 7 false)
    else
      let duty := x.drive.duty
      let (pn, pd) := s.pwmPeriod c
      -- on-times compared in microseconds: duty·pn/(65536·pd) against 1.5
      let short := decide (2 * duty * pn < 3 * 65536 * pd)
      let probing := short && bitAt (s.getN 0x2860 5) c.val && duty != 0
      let s := (s.setLampBit c 7 probing).setN (lampIdx c) 0x14 (min 0xFFFF m.current)
      if probing then
        let len := if duty ≤ 3 then 4096 else 1024
        let blk := if x.duty = duty then x.block % len else 0
        let probe := roundDiv (2 * 65536 * pd) pn
        let rest := len * duty - probe
        let on := if blk = 0 then probe else blk * rest / (len - 1) - (blk - 1) * rest / (len - 1)
        let s := s.setLamp c { x with duty := duty, on := on, block := blk + 1 }
        .next ((if blk = 0 then s.measure c m.pass else s).showVerdict c)
      else
        let s := s.setLamp c { x with duty := duty, on := duty, block := 0 }
        .next ((if short then s else s.measure c m.pass).showVerdict c)

/-- VERIFY_AGE_EXPIRY (R346, R349): 500 ms without a passing measurement. -/
def execVerifyAgeExpiry (c : Fin 48) (s : State) : Host.Outcome State Fault Refusal :=
  match (s.lamp c).lastPass with
  | none => .next s
  | some p => if !s.power.enabled then .next s else .next ((s.atTime (p + 500 * Config.ticksPerMs)).showVerdict c)

/-- OPEN_RETRY_BURST (R347): once a second an open channel is tried; a pass clears the verdict and it fades in from 0. -/
def execOpenRetryBurst (c : Fin 48) (pass : Bool) (s : State) : Host.Outcome State Fault Refusal :=
  let x := s.lamp c
  if !s.power.enabled ∨ x.opened = false then .next s
  else
    let s := s.atTime x.retryAt
    if pass then
      let y := { x with opened := false, fails := 0, lastPass := some s.tbc }
      .next ((((s.setLamp c y).lampLog c 2 0xFF).fadeStart c s.tbc 0).showVerdict c)
    else .next (s.setLamp c { x with retryAt := s.tbc + Config.ticksPerSec })

/-- SHORT_RETEST (R350): every 10 s a shorted channel runs at 12.5 % for 20 ms and is tested again. -/
def execShortRetest (c : Fin 48) (lvmon : Nat) (s : State) : Host.Outcome State Fault Refusal :=
  let x := s.lamp c
  if !s.power.enabled ∨ s.lampBit c 5 = false then .next s
  else
    let s := s.atTime (x.retestAt + 20 * Config.ticksPerMs)
    let vs := s.stringMv lvmon
    let s := s.setN (lampIdx c) 0x15 vs
    if s.getN (lampIdx c) 0x11 ≤ 4 * vs then .next (((s.setLampBit c 5 false).lampLog c 4 0xFF).fadeStart c s.tbc 0)
    else .next (s.setLamp c { x with retestAt := x.retestAt + 10 * Config.ticksPerSec })

/-! ## Neighbour test and gate watchdog (R351, R352, R473) -/

/-- The channels a failed check concerns: n itself, and n − 1 or n + 1 where it exists (R351). -/
def neighbourOf (f : Fin 48 × Fin 3) : Nat × Option Nat :=
  let n := f.1.val
  (n, if f.2.val = 1 then (if n = 0 then none else some (n - 1)) else if f.2.val = 2 then (if n = 47 then none else some (n + 1)) else none)

/-- The outcome of a neighbour test (R351): LW_NEIGHBOUR_RESULT and NEIGHBOUR_FAULT of every channel. -/
def State.neighbourResult (s : State) (fails : List (Fin 48 × Fin 3)) : State :=
  let fs := fails.map neighbourOf
  let bad := fun (c : Nat) => fs.any (fun f => f.1 == c || f.2 == some c)
  let nb := fun (c : Nat) => ((fs.findSome? (fun f =>
    if f.1 = c then f.2 else if f.2 = some c then some f.1 else none)).getD 0xFF)
  let s := s.setN 0x2860 0x0A ((List.range 48).foldl (fun a c => if bad c then a ||| (1 <<< c) else a) 0)
  (List.range 48).foldl (fun s c =>
    let was := s.lampBit c 15
    let s := s.setLampBit c 15 (bad c)
    if bad c && !was then s.lampLog c 6 (nb c) else if was && !bad c then s.lampLog c 7 0xFF else s) s

/-- LAMP_GATE_WATCHDOG (R473): channel c's gate is held low, by 3 ms without an evaluation or by its driver supply. -/
def execLampGateWatchdog (c : Fin 48) (at_ : Nat) (s : State) : Host.Outcome State Fault Refusal :=
  let s := s.atTime at_
  .next (s.setLamp c { s.lamp c with held := true, drive := {}, rise := none, on := 0 })

/-! ## Content-follow (R263, R342) -/

/-- The content-follow target of a published statistic (R342). -/
def followTarget (mn mx v : Nat) : Nat := mn + (((mx - mn) * min v 0x8000 + 0x4000) >>> 15)

/-- ZONE_STATS_PUBLISH (R263): the statistics of the frame are published; following channels take their next target. -/
def execZoneStatsPublish (n : Fin 48) (at_ : Nat) (s : State) : Host.Outcome State Fault Refusal :=
  let o := s.output n
  if !s.power.enabled ∨ o.on = false then .next s
  else
    let s := s.atTime at_
    let l := s.zoneStats n
    let s := (s.setB (0x2500 + n.val) 0x0D l).fetchReport n
    if 0 < o.fallback then .next s
    else
      .next ((List.range 48).foldl (fun s c =>
        let z := s.getN (lampIdx c) 0x0A
        if z = 0xFFFF ∨ z / 256 ≠ n.val then s
        else
          let base := 16 + 12 * (z % 256)
          let v := leAt l (base + ([6, 8, 0, 2, 4].getD (s.getN (lampIdx c) 0x0C) 6)) 2
          let x := s.lamp c
          s.setLamp c { x with fresh := some (followTarget (s.getN (lampIdx c) 0x0D) (s.getN (lampIdx c) 0x0E) v) }) s)

/-! ## Apply points, start and stop -/

/-- A channel takes up entries at its apply point (R334, R344): `refade` says that a Whistle-class object is among them,
`refollow` that LC_FOLLOW_ZONE changed. -/
def State.lampTake (s : State) (c : Nat) (refade refollow : Bool) : State :=
  let x := s.lamp c
  let s := if refollow then s.setLamp c { x with target := none, fresh := none } else s
  if refade && !s.zeroed c then s.fadeStart c s.tbc (x.level s.tbc) else s

/-- Lamp channels at the enable instant: each enabled channel fades from 0 (R334). -/
def State.lampsEnable (s : State) : State :=
  let lm := { s.lamps with ch := [], now := none, since := s.tbc }
  let s := { s with lamps := lm }
  let s := (List.range 48).foldl (fun s c => if s.getN (lampIdx c) 1 = 1 then s.fadeStart c s.tbc 0 else s) s
  s.lampEval false

/-- Every gate low: the data plane has stopped (R473). -/
def State.lampsStop (s : State) : State :=
  let lm : Lamps := { therm := [], since := s.tbc }
  let s := { s with lamps := lm }
  (List.range 48).foldl (fun s c => (((s.setN (lampIdx c) 0x12 0).setN (lampIdx c) 0x13 0).setN (lampIdx c) 0x14 0).setN (lampIdx c) 8 0x18) s

end Sys2Proof.Machine
end

