-- ==== Sys2Proof/Machine/Spans.lean ====
section
/-! DEFINITION. Span links (chapter 5): packets, credits and sequences (R149–R152), port states (R138–R140), HELLO, the
time exchange (R155), joining (R158–R162), leaving (R163–R165), the roll call (R166, R167). A message's own row acts on a
message whose packets have been accepted; SPAN_PACKET is the packet layer (log entry 25). -/
namespace Sys2Proof.Machine

/-! ## Violations, blocks and channels -/

/-- A span violation (R182): every occurrence counts, and one a second for each cause and port is entered in the log. -/
def State.spanViol (s : State) (cause p chan code : Nat) : State :=
  let x := s.port p
  let last := tabGet 0 x.seen cause
  let s := s.count (0x2C00 + p) 0x0B
  if last ≠ 0 ∧ s.tbc + 1 < last + Config.ticksPerSec then s
  else
    (s.setPort p { x with seen := tabSet 0 x.seen cause (s.tbc + 1) }).violation cause
      ([p, chan, code, 0, 0, 0].map (BitVec.ofNat 8))

/-! ## The tree -/

def State.memberState (s : State) : Nat := s.getN 0x1200 5
def State.ownAddr (s : State) : Nat := s.getN 0x1200 2
def State.ownDepth (s : State) : Nat := s.getN 0x1200 3
def State.serial (s : State) : Nat := s.getN 0x1000 4
/-- A manager, or a worker that is a member. -/
def State.inTree (s : State) : Bool := s.mgr || s.memberState == 3

def State.trained (s : State) : List Nat := (List.range 4).filter (fun p => (s.port p).lanes != 0)

/-- Whether a peer qualifies as a parent (R139). -/
def Peer.parent (q : Peer) : Bool := (q.state == 0 || q.state == 3) && decide (q.depth ≤ 7)

/-- SP_STATE of a trained port (R138–R140). A device of a tree has a worker that is no member elsewhere, or one that it has
declared left (R166), below it. A worker that joins has not settled what its other links are (log entry 45). -/
def State.portState (s : State) (p : Nat) : Nat :=
  match (s.port p).peer with
  | none => 2
  | some q =>
    if s.upPort = some p then 4
    else if s.inTree then
      if q.role = 0 then 5
      else if q.state = 3 then
        if s.spans.members.any (fun m => m.serial == q.serial && m.port == p) || s.spans.lost.contains q.serial then 3 else 5
      else 3
    else if s.upPort.isSome || q.parent then 2 else 5

/-- Whether a HELLO may cross a link whose peer says it has a role and a member state: the link is not BLOCKED, or it is a
candidate upstream port for a worker at either end that has none (R140). -/
def State.helloOpen (s : State) (p role st : Nat) : Bool :=
  s.getN (0x2C00 + p) 2 != 5 || (!s.mgr && s.upPort.isNone) || (role == 1 && (st == 1 || st == 5))

def State.showPorts (s : State) : State :=
  s.trained.foldl (fun s p => s.setN (0x2C00 + p) 2 (s.portState p)) s

/-- The downstream ports. -/
def State.downPorts (s : State) : List Nat := s.trained.filter (fun p => s.getN (0x2C00 + p) 2 == 3)

/-- HELLO on a port (R154). -/
def State.sendHello (s : State) (p : Nat) : State :=
  s.chanSend p 1 ([1, 1, b2n (!s.mgr), s.ownDepth, (s.port p).lanes].map (BitVec.ofNat 8) ++ toBE 8 s.serial ++
    [BitVec.ofNat 8 (if s.mgr then s.straps.addr.toNat else s.spans.bus), BitVec.ofNat 8 s.memberState])

/-- HELLO on every port that may carry one. -/
def State.sendHellos (s : State) : State :=
  s.trained.foldl (fun s p =>
    match (s.port p).peer with
    | some q => if s.helloOpen p q.role q.state then s.sendHello p else s
    | none => s.sendHello p) s

/-! ## Membership on the manager (R160, R163, R165) -/

/-- A join or a leave: MB_GENERATION, MB_PRESENT, MB_COUNT, MB_LAST_CHANGE and the event (R165). -/
def State.membershipChanged (s : State) : State :=
  let ws := s.spans.members.map (·.addr)
  let s := ((s.setN 0x1201 2 ((s.getN 0x1201 2 + 1) % 2 ^ 32)).setN 0x1201 1 ws.length).setN 0x1201 3 s.tbc
  (s.setB 0x1211 0 (bitMap 32 ws)).event 9

/-- What relayed requests to a worker that leaves complete with (R171), and its part in requests for all workers: a worker that
the frame had been sent to counts as reached, and as refusing with 0x0A (log entry 118). -/
def State.relayLost (s : State) (w : Nat) : State :=
  let s := s.queue.foldl (fun s _ => s.complete (fun e => match e.job with
    | .relay v _ _ => v == w
    | .subAct _ v _ _ => v == w
    | _ => false) { status := 0x0A, payload := [] }) s
  { s with queue := s.queue.map (fun e => match e.job with
      | .relayAll own ty f ws outs =>
        if ws.contains w then { e with job := .relayAll own ty f (ws.filter (fun v => v != w)) (outs ++ [(w, 0x0A)]) } else e
      | _ => e) }

/-- The combined outcome of a request for all workers (R62): status, and the payload of 34 bytes. -/
def combine (own : Nat) (outs : List (Nat × Nat)) : Res :=
  let os := outs.mergeSort (fun a b => decide (a.1 ≤ b.1))
  let bad := os.filter (fun o => o.2 != 0)
  { status := if own ≠ 0 then own else (bad.head?.map (·.2)).getD 0,
    payload := [BitVec.ofNat 8 os.length, BitVec.ofNat 8 bad.length] ++ bitMap 32 (bad.map (·.1)) }

/-- Complete requests for all workers whose last answer has come (R62). -/
def State.relayAllDone (s : State) : State :=
  s.queue.foldl (fun s _ =>
    match s.queue.find? (fun e => e.res.isNone && (match e.job with
      | .relayAll _ _ _ [] _ => true
      | _ => false)) with
    | some e => match e.job with
      | .relayAll own _ _ _ outs => s.complete (fun d => d == e) (combine own outs)
      | _ => s
    | none => s) s

/-! ## Tunnels at this device (R177–R181) -/

/-- The way to a virtual input's source device: its span port, or `some none` where it is this device itself; `none` where there
is none now. -/
def State.tunnelPath (s : State) (v : Nat) : Option (Option Nat) :=
  let w := bits (s.getN (0x2140 + v) 2) 15 8
  if w = s.ownAddr then some none
  else match s.spans.members.find? (fun m => m.addr == w) with
    | some m => some (some m.port)
    | none => if s.mgr ∨ s.memberState ≠ 3 then none else s.upPort.map some

/-- The reservation of a tunnel in Mbit/s (R178). -/
def reserveMbps (kind sampling fm ch : Nat) : Nat :=
  let (n, d) := frameRate (fmtRate fm)
  let video := if kind = 2 then 0 else fmtW fm * fmtH fm * samplingBits sampling * 17 * n
  let audio := if kind = 1 then 0 else 6528000 * ch
  ceilDiv (video + audio * 16 * d) (16 * d * 1000000)

def State.vinBit (s : State) (v i : Nat) (b : Bool) : State := s.setBit (0x2140 + v) 7 i b

/-- The path of an active tunnel is down (R181): PATH_DOWN, and the virtual input is without signal. -/
def State.tunnelDown (s : State) (v : Nat) : State :=
  if s.getN (0x2140 + v) 1 = 0 ∨ s.getBit (0x2140 + v) 7 3 then s
  else (((s.vinBit v 3 true).vinBit v 0 false).setN (0x2140 + v) 8 0).inputLoss (0x20 + v)

/-- The path of a tunnel stands again. -/
def State.tunnelUp (s : State) (v : Nat) : State := (s.vinBit v 3 false).vinBit v 0 true

/-- The virtual inputs with an active tunnel that comes by a port. -/
def State.tunnelsBy (s : State) (p : Nat) : List Nat :=
  (List.range 32).filter (fun v => s.getN (0x2140 + v) 1 == 1 && (s.input (0x20 + v)).port == some p)

/-- A link of this device's own on the path is down. -/
def State.tunnelsDown (s : State) (p : Nat) : State := (s.tunnelsBy p).foldl State.tunnelDown s

/-- Tunnels from a source device that has left. -/
def State.tunnelsFrom (s : State) (w : Nat) : State :=
  ((List.range 32).filter (fun v => bits (s.getN (0x2140 + v) 2) 15 8 == w)).foldl State.tunnelDown s

/-- Whether a tunnel fits the port it now comes by, beside those that stand there: 8 in number, and the lanes' capacity (R179). -/
def State.tunnelFits (s : State) (v p : Nat) : Bool :=
  let there := (s.tunnelsBy p).filter (fun u => u != v && !s.getBit (0x2140 + u) 7 3)
  decide (there.length < 8) &&
    decide ((there.map (fun u => s.getN (0x2140 + u) 9)).foldl (· + ·) (s.getN (0x2140 + v) 9) ≤ 9500 * (s.port p).lanes)

/-- Paths are restored (R181): active tunnels come back in ascending order on their new paths while they fit; one that does not
stays PATH_DOWN and is logged. -/
def State.tunnelsUp (s : State) : State :=
  (List.range 32).foldl (fun s v =>
    if s.getN (0x2140 + v) 1 = 0 ∨ !s.getBit (0x2140 + v) 7 3 then s
    else match s.tunnelPath v with
      | some (some p) =>
        if s.tunnelFits v p then ({ s with inputs := tabSet {} s.inputs (0x20 + v) { s.input (0x20 + v) with port := some p } }).tunnelUp v
        else s.violation 0x31 [BitVec.ofNat 8 v]
      | _ => s) s

/-! ## The end of a roll call (R166, R167) -/

/-- The census (R167). -/
def State.census (s : State) (r : Roll) : List Byte :=
  let es := r.got.mergeSort (fun a b => decide (a.1 ≤ b.1))
  let depth := (es.map (fun e => byteAt e.2 1)).foldl max 0
  [BitVec.ofNat 8 es.length, BitVec.ofNat 8 depth] ++ toBE 2 (s.getN 0x1201 2 % 65536) ++ es.flatMap (·.2)

/-- Complete the ROLL_CALL that a roll call answers: the roll calls that were asked for and the requests that wait stand in one
order. -/
def State.rollAnswer (s : State) (r : Roll) : State :=
  let i := (s.spans.rolls.filter (fun x => !x.auto_)).findIdx (fun x => x.gen == r.gen)
  let es := (List.range s.queue.length).filter (fun j => s.queue[j]?.any (fun e => e.res.isNone && e.job == .rollCall))
  match es[i]?.bind (fun j => s.queue[j]?.map (fun e => (j, e))) with
  | some (j, e) => s.finishEntry j e { status := 0, payload := s.census r }
  | none => s

/-- A roll call that is over: a ROLL_CALL completes; an automatic one counts for each member whether it missed it. -/
def State.rollClose (s : State) (r : Roll) : State :=
  let s := if r.auto_ then s else s.rollAnswer r
  let mark := fun (m : Member) => if r.got.any (fun g => g.1 == m.addr) then { m with missed := 0 } else { m with missed := m.missed + 1 }
  { s with spans := { s.spans with rolls := s.spans.rolls.filter (fun x => x.gen != r.gen),
                                   members := if r.auto_ then s.spans.members.map mark else s.spans.members } }

/-- Whether every present member has answered a roll call (R166). -/
def State.rollFull (s : State) (r : Roll) : Bool := s.spans.members.all (fun m => r.got.any (fun g => g.1 == m.addr))

/-- Roll calls that waited only for members that have left. -/
def State.rollsSettle (s : State) : State := (s.spans.rolls.filter s.rollFull).foldl State.rollClose s

/-! ## Leaving: the manager's record (R163, R165, R171, R200) -/

/-- One worker is marked absent. -/
def State.markAbsent (s : State) (w : Nat) : State :=
  if s.spans.members.any (fun m => m.addr == w) then
    let s := s.tunnelsFrom w
    let s := { s with spans := { s.spans with members := s.spans.members.filter (fun m => m.addr != w),
                                              gone := (w, s.tbc) :: s.spans.gone.filter (fun g => g.1 != w) } }
    if s.mgr then (((s.membershipChanged.relayLost w).relayAllDone).koLeave w).rollsSettle else s
  else s

/-- LEAVE: the message. -/
def leaveMsg (reason : Nat) (ws : List Nat) : List Byte :=
  [BitVec.ofNat 8 5, BitVec.ofNat 8 reason, BitVec.ofNat 8 ws.length] ++ ws.map (BitVec.ofNat 8)

/-- Workers leave (R163): the manager marks them absent; a worker passes the news upward. -/
def State.leaveBelow (s : State) (ws : List Nat) : State :=
  if ws.isEmpty then s else
  let s := ws.foldl State.markAbsent s
  if s.mgr then s else s.sendUp 1 (leaveMsg 1 ws)

/-- This worker leaves with its subtree (R163, R164): LEAVE to each child, REF4 is lost, everything else stands. The manual gives
no reason codes, and does not say how LEAVE names the child itself: reason 1 and an empty list (log entry 119). -/
def State.selfLeave (s : State) : State :=
  let s := s.downPorts.foldl (fun s p => s.chanSend p 1 (leaveMsg 1 [])) s
  let s := match s.upPort with
    | some p => s.tunnelsDown p
    | none => s
  let s := { s with spans := { s.spans with members := [], joining := none, retryAt := none } }
  let s := (((s.setN 0x1200 2 0xFF).setN 0x1200 3 0xFF).setN 0x1200 4 0xFF).setN 0x1200 5 1
  let s := (s.disqualify 4 1).setCand 4 {}
  s.showPorts.sendHellos

/-! ## Links up and down (R144, R146, R147) -/

/-- The link of a port goes down (R146, R163, R181). -/
def State.linkDrop (s : State) (p : Nat) : State :=
  let x := s.port p
  if x.lanes = 0 then s else
  let up := s.upPort = some p
  let below := (s.spans.members.filter (fun m => m.port == p)).map (·.addr)
  let s := s.tunnelsDown p
  let s := s.setPort p { seen := x.seen }
  let s := (s.count (0x2C00 + p) 0x0C).setN (0x2C00 + p) 2 (s.getN (0x2C00 + p) 1)
  let s := (s.setN (0x2C00 + p) 3 0).setN (0x2C00 + p) 4 0
  if up then s.selfLeave else s.leaveBelow below

/-- LINK_DOWN: 16 invalid sync headers within 64 blocks (R146), or alignment lost (cause 0x29). -/
def execLinkDown (p : Fin 4) (alignLost : Bool) (at_ : Nat) (s : State) : Host.Outcome State Fault Refusal :=
  if !s.power.run ∨ (s.port p).lanes = 0 then .next s else
  let s := s.atTime at_
  .next ((if alignLost then s.spanViol 0x29 p 0 0 else s).linkDrop p)

/-- The lanes a port uses of those locked and aligned (R144). -/
def lanesOf (locked : BitVec 4) : Nat :=
  if locked = 0xF#4 then 4 else if locked.getLsbD 0 && locked.getLsbD 1 then 2 else if locked.getLsbD 0 then 1 else 0

/-- SPAN_LINK_UP: the lanes reach block lock and alignment (R144); HELLO begins (R154). -/
def execSpanLinkUp (p : Fin 4) (locked : BitVec 4) (at_ : Nat) (s : State) : Host.Outcome State Fault Refusal :=
  if !s.power.run ∨ (s.port p).lanes ≠ 0 ∨ s.getN (0x2C00 + p) 1 = 0 ∨ lanesOf locked = 0 then .next s else
  let s := s.atTime at_
  let scr := (List.range 4).map (Config.scrSeed s.seed p)
  let s := (s.setPort p { s.port p with lanes := lanesOf locked, scr := scr }).drawn
  let s := (s.setN (0x2C00 + p) 3 (lanesOf locked)).setN (0x2C00 + p) 2 2
  .next (s.sendHello p)

/-- IDLE: carries nothing (R145). -/
def execIdle (_p : Fin 4) (s : State) : Host.Outcome State Fault Refusal := .next s

/-- ALIGN (R147): two in succession missing or out of step take the link down. -/
def execAlign (p : Fin 4) (inStep : Bool) (at_ : Nat) (s : State) : Host.Outcome State Fault Refusal :=
  let x := s.port p
  if !s.power.run ∨ x.lanes = 0 then .next s else
  let s := s.atTime at_
  if inStep then .next (s.setPort p { x with missed := 0 })
  else if x.missed = 0 then .next (s.setPort p { x with missed := 1 })
  else .next ((s.spanViol 0x29 p 0 0).linkDrop p)

/-- The ALIGN block of a lane of `n`. -/
def alignBlock (n l : Nat) : List Byte := [0x2D#8, BitVec.ofNat 8 l, BitVec.ofNat 8 n]

/-- ALIGN_INTERVAL: an ALIGN block on every lane in use, all in one block slot (R147). -/
def execAlignInterval (p : Fin 4) (s : State) : Host.Outcome State Fault Refusal :=
  if !s.power.run then .next s else
  let n := (s.port p).lanes
  .next ((List.range n).foldl (fun s l =>
    s.sendAfter p (0x2D * 256 + l) (if l = 0 then (s.port p).toSlot else []) (alignBlock n l)) s)

/-- CREDIT_INTERVAL: a CREDIT block for every channel (R151). -/
def execCreditInterval (p : Fin 4) (s : State) : Host.Outcome State Fault Refusal :=
  if !s.power.run then .next s else
  .next (([0, 1, 2] ++ (List.range 8).map (· + 8)).foldl (fun s ch => s.sendCredit p ch) s)

/-- BAD_CONTROL_BLOCK: CRC-8 failure (0x20) or unknown type (0x21), discarded (R182). -/
def execBadControlBlock (p : Fin 4) (crcBad : Bool) (typ : BitVec 8) (at_ : Nat) (s : State) : Host.Outcome State Fault Refusal :=
  if !s.power.run ∨ (s.port p).lanes = 0 then .next s else
  .next ((s.atTime at_).spanViol (if crcBad then 0x20 else 0x21) p typ.toNat 0)

/-- CREDIT (R151, R152): the cumulative count of credits freed, and what the next expected sequence acknowledges. -/
def execCredit (p : Fin 4) (ch : BitVec 8) (freed : BitVec 16) (next : BitVec 8) (at_ : Nat) (s : State) :
    Host.Outcome State Fault Refusal :=
  let x := s.port p
  let k := ch.toNat
  if !s.power.run ∨ x.lanes = 0 ∨ chanBudget k = 0 then .next s else
  let s := s.atTime at_
  let c := x.chan k
  let acked := if c.unacked.any (fun q => q.seq == next.toNat) then c.unacked.dropWhile (fun q => q.seq != next.toNat)
               else if c.seq = next.toNat then [] else c.unacked
  let c := { c with freed := freed.toNat, unacked := acked, progress := if acked = c.unacked then c.progress else s.tbc }
  .next (s.chanPump p k c)

/-! ## Time across the tree (R155) -/

/-- A time in 1/32 ticks, low 40 bits. -/
def stamp40 (tbc frac : Nat) : Nat := (32 * tbc + frac) % 2 ^ 40

/-- TIME_EXCHANGE_TICK: TSYNC on each downstream port, DELAY_REQ upstream. -/
def execTimeExchangeTick (frac : Fin 32) (at_ : Nat) (s : State) : Host.Outcome State Fault Refusal :=
  if !s.power.run then .next s else
  let s := s.atTime at_
  let now := stamp40 s.tbc frac
  let s := s.downPorts.foldl (fun s p =>
    let x := s.port p
    let s := s.sendBlock p 0x33 ([0x33#8, BitVec.ofNat 8 x.seq] ++ toBE 5 now)
    s.setPort p { s.port p with seq := (x.seq + 1) % 256 }) s
  match s.upPort with
  | none => .next s
  | some p =>
    let x := s.port p
    let s := s.sendBlock p 0x4B [0x4B#8, BitVec.ofNat 8 x.seq]
    .next (s.setPort p { s.port p with t3 := some (x.seq, now), seq := (x.seq + 1) % 256 })

/-- TSYNC from the parent: t1 and t2. -/
def execTsync (p : Fin 4) (seq : BitVec 8) (stamp : BitVec 40) (frac : Fin 32) (at_ : Nat) (s : State) :
    Host.Outcome State Fault Refusal :=
  if !s.power.run ∨ s.upPort ≠ some p.val then .next s else
  let s := s.atTime at_
  .next (s.setPort p { s.port p with t12 := some (seq.toNat, stamp.toNat, stamp40 s.tbc frac) })

/-- DELAY_REQ from a child: DELAY_RSP with its arrival time. -/
def execDelayReq (p : Fin 4) (seq : BitVec 8) (frac : Fin 32) (at_ : Nat) (s : State) : Host.Outcome State Fault Refusal :=
  if !s.power.run ∨ s.getN (0x2C00 + p) 2 ≠ 3 then .next s else
  let s := s.atTime at_
  .next (s.sendBlock p 0x55 ([0x55#8, seq] ++ toBE 5 (stamp40 s.tbc frac)))

/-- Picoseconds from 1/32 ticks, and back: 864 parts of 1/32 tick are 10^6 ps. -/
def psOf (v : Int) : Int := roundDivI (v * 1000000) 864
def partsOf (ps : Int) : Int := roundDivI (ps * 864) 1000000

/-- The filtered offset: the mean of the last 16 exchanges (R155; log entry 26). -/
def meanOffset (l : List Int) : Int := roundDivI (l.foldl (· + ·) 0) (max 1 l.length)

/-- JOIN_REQ of this worker: its present address if it has one, else its last (R161). -/
def State.askJoin (s : State) : State :=
  let a := if s.ownAddr = 0xFF then s.getN 0x1200 6 else s.ownAddr
  let s := { s with spans := { s.spans with joining := some s.tbc, retryAt := none } }
  s.sendUp 1 ([0x02#8] ++ toBE 8 s.serial ++ [BitVec.ofNat 8 a, 0#8] ++ toBE 2 0)

/-- DELAY_RSP: the exchange completes; delay and offset (R155), and how far TBC lags behind the parent's (R157). Halves and the
conversions between ps and 1/32 ticks are rounded to nearest, which the manual leaves open (log entry 120). After 16 exchanges
a joining worker asks to join. -/
def execDelayRsp (p : Fin 4) (seq : BitVec 8) (stamp : BitVec 40) (s : State) : Host.Outcome State Fault Refusal :=
  let x := s.port p
  if !s.power.run ∨ s.upPort ≠ some p.val then .next s else
  match x.t12, x.t3 with
  | some (_, t1, t2), some (q, t3) =>
    if q ≠ seq.toNat then .next s else
    let d1 := toInt 40 (t2 + 2 ^ 40 - t1)
    let d2 := toInt 40 (stamp.toNat + 2 ^ 40 - t3)
    let delay := roundDivI (d1 + d2 + partsOf (toInt 32 (s.getN (0x2C00 + p) 8))) 2
    let offs := ((d1 - delay) :: x.offs).take 16
    let s := s.setPort p { x with t3 := none, offs := offs }
    let s := s.setN (0x2C00 + p) 5 (ofInt 32 (psOf delay))
    let err := psOf (meanOffset offs)
    let s := (s.setN (0x2C00 + p) 6 (ofInt 32 (clampInt (-0x80000000) 0x7FFFFFFF err))).setCand 4 { s.cand 4 with lag := some (-err) }
    .next (if s.memberState = 2 ∧ 16 ≤ offs.length ∧ s.spans.joining.isNone then s.askJoin else s)
  | _, _ => .next s

/-! ## HELLO (R139, R154) -/

/-- Whether a HELLO has a known version and possible fields (cause 0x27). -/
def helloOk (h : HelloMsg) : Bool :=
  h.version == 1#8 && decide (h.role.toNat ≤ 1) && [1, 2, 4].contains h.lanes.toNat && decide (h.state.toNat ≤ 5) &&
  (decide (h.depth.toNat ≤ 8) || h.depth == 0xFF#8) && (h.role == 0#8) == (h.state == 0#8)

/-- A worker without an upstream port chooses one: the lowest port whose peer qualifies (R139); with qualifying peers at
depth 8 only, member state 5. -/
def State.chooseUp (s : State) : State :=
  if s.mgr ∨ s.upPort.isSome then s else
  let peers := s.trained.filterMap (fun p => (s.port p).peer.map (fun q => (p, q)))
  match peers.find? (fun pq => pq.2.parent) with
  | some (p, _) =>
    let s := { s with spans := { s.spans with joining := none, retryAt := none } }
    let s := ((s.setN 0x1200 4 p).setN 0x1200 5 2).setPort p { s.port p with offs := [], t12 := none, t3 := none }
    s.sendHellos.showPorts
  | none =>
    if s.memberState ≠ 5 ∧ peers.any (fun pq => (pq.2.state == 0 || pq.2.state == 3) && pq.2.depth == 8) then (s.setN 0x1200 5 5).sendHellos else s

/-- HELLO (R154, R182): what the peer says of itself. Which port a worker chooses is settled at the end of the millisecond (R139). -/
def execHello (p : Fin 4) (h : HelloMsg) (at_ : Nat) (s : State) : Host.Outcome State Fault Refusal :=
  let x := s.port p
  if !s.power.run ∨ x.lanes = 0 then .next s else
  let s := s.atTime at_
  if !s.helloOpen p h.role.toNat h.state.toNat then .next (s.spanViol 0x28 p 1 1)
  else if !helloOk h then
    let s := (s.spanViol 0x27 p 1 1)
    .next ((s.setPort p { s.port p with peer := none }).setN (0x2C00 + p) 2 2)
  else if x.peer.any (fun q => q.serial != h.serial.toNat) then .next ((s.spanViol 0x2A p 1 1).linkDrop p)
  else
    let first := x.peer.isNone
    let q : Peer := { role := h.role.toNat, depth := h.depth.toNat, lanes := h.lanes.toNat, serial := h.serial.toNat, bus := h.bus.toNat, state := h.state.toNat }
    let s := s.setPort p { s.port p with peer := some q, lanes := min x.lanes q.lanes }
    let s := (s.setN (0x2C00 + p) 4 q.serial).setN (0x2C00 + p) 3 (min x.lanes q.lanes)
    let s := s.showPorts
    .next (if first ∨ x.lanes ≠ min x.lanes q.lanes then s.sendHello p else s)

/-- HELLO_TICK, every 1 ms: HELLO on each trained port whose peer has not been heard (R154); a worker without an upstream port
takes one of those that qualified in this millisecond, the lowest (R139). -/
def execHelloTick (at_ : Nat) (s : State) : Host.Outcome State Fault Refusal :=
  if !s.power.run then .next s else
  let s := s.atTime at_
  let s := (s.trained.filter (fun p => (s.port p).peer.isNone)).foldl State.sendHello s
  .next s.chooseUp

/-! ## Joining (R158–R162) -/

/-- The entries of MB_BINDINGS: serial, address, locked. -/
def State.bindings (s : State) : List (Nat × Nat × Bool) :=
  let l := s.getB 0x1210 0
  (List.range (l.length / 12)).map (fun i => (leAt l (12 * i) 8, byteAt l (12 * i + 8), bitAt (byteAt l (12 * i + 9)) 0))

def bindingBytes (b : Nat × Nat × Bool) : List Byte := toLE 8 b.1 ++ [BitVec.ofNat 8 b.2.1, BitVec.ofNat 8 (b2n b.2.2), 0#8, 0#8]

/-- The address the manager assigns (R160); `none` where the order yields none. -/
def State.assign (s : State) (serial asked : Nat) : Option Nat :=
  let bs := s.bindings
  let here := fun a => s.spans.members.any (fun m => m.addr == a)
  match bs.find? (fun b => b.1 == serial) with
  | some b => some b.2.1
  | none =>
    if 1 ≤ asked ∧ asked ≤ 254 ∧ !here asked ∧ !bs.any (fun b => b.2.1 == asked) then some asked
    else match (List.range 254).find? (fun i => !here (i + 1) && !bs.any (fun b => b.2.1 == i + 1)) with
      | some i => some (i + 1)
      | none =>
        let away := (bs.filter (fun b => !b.2.2 && !here b.2.1)).map (fun b => (((s.spans.gone.find? (fun g => g.1 == b.2.1)).map (·.2)).getD 0, b.2.1))
        (away.mergeSort (fun a b => decide (a.1 ≤ b.1))).head?.map (·.2)

/-- Bind a serial to an address in the active value of MB_BINDINGS (R160). -/
def State.bindTo (s : State) (serial addr : Nat) : State :=
  let bs := s.bindings
  if bs.any (fun b => b.1 == serial && b.2.1 == addr) then s
  else s.setB 0x1210 0 ((bs.filter (fun b => b.2.1 != addr) ++ [(serial, addr, false)]).flatMap bindingBytes)

/-- JOIN_REFUSE towards a worker (R141), counted and raised. -/
def State.refuseJoin (s : State) (p serial hops path reason : Nat) : State :=
  let s := ((s.count 0x1201 4).spanViol 0x2B p 1 4).event 10
  s.chanSend p 1 ([0x04#8] ++ toBE 8 serial ++ [BitVec.ofNat 8 hops] ++ toBE 2 path ++ [BitVec.ofNat 8 reason])

/-- The parent's address and downstream port of a worker at a path (R167). -/
def State.parentOf (s : State) (hops path : Nat) : Nat × Nat :=
  let k := 16 - 2 * hops
  let up := path >>> (k + 2)
  (((s.spans.members.find? (fun m => m.depth + 1 == hops && m.path >>> (k + 2) == up)).map (·.addr)).getD 0, (path >>> k) % 4)

/-- JOIN_REQ (R160): a worker appends its downstream port and forwards upward; the manager answers. A worker that stands under
the address that the order yields loses it without a leave (log entry 121). -/
def execJoinReq (p : Fin 4) (serial : BitVec 64) (addr hops : BitVec 8) (path : BitVec 16) (at_ : Nat) (s : State) :
    Host.Outcome State Fault Refusal :=
  if !s.power.run ∨ (s.port p).lanes = 0 then .next s else
  let s := s.atTime at_
  if s.getN (0x2C00 + p) 2 ≠ 3 then .next (s.spanViol 0x28 p 1 2) else
  let h := hops.toNat + 1
  let w := (p.val <<< 14) ||| (path.toNat >>> 2)
  if !s.mgr then .next (s.sendUp 1 ([0x02#8] ++ toBE 8 serial.toNat ++ [addr, BitVec.ofNat 8 h] ++ toBE 2 w))
  else if 8 < h then .next (s.refuseJoin p serial.toNat h w 2)
  else
    let mine := fun (m : Member) => m.serial == serial.toNat
    let others := s.spans.members.filter (fun m => !mine m)
    if 254 ≤ others.length then .next (s.refuseJoin p serial.toNat h w 1)
    else match ({ s with spans := { s.spans with members := others } }).assign serial.toNat addr.toNat with
      | none => .next (s.refuseJoin p serial.toNat h w 1)
      | some a =>
        let (pa, pp) := s.parentOf h w
        let m : Member := { addr := a, serial := serial.toNat, depth := h, parent := pa, pport := pp, path := w, port := p }
        let others := others.filter (fun m => m.addr != a)
        let s := { s with spans := { s.spans with members := others ++ [m], lost := s.spans.lost.filter (fun x => x != serial.toNat) } }
        let s := (s.bindTo serial.toNat a).membershipChanged.tunnelsUp
        -- every worker's EVENT_PENDING is mirrored for tenant 0 (R172)
        let mir : Mirror := { w := a, ten := 0, idx := 0x1400, sub := 0, snooped := s.tbc }
        let s := if s.spans.mirrors.any (fun x => x.w == a && x.idx == 0x1400 && x.ten == 0) then s
                 else { s with spans := { s.spans with mirrors := s.spans.mirrors ++ [mir] } }
        .next (s.showPorts.chanSend p 1 ([0x03#8] ++ toBE 8 serial.toNat ++ [BitVec.ofNat 8 a, BitVec.ofNat 8 h] ++ toBE 2 w ++
          toBE 8 s.anchor ++ [BitVec.ofNat 8 s.straps.addr.toNat]))

/-- Running outputs cut their frame short and start at the next grid pulse (R158); one that waits for the first frame of a new
timing starts it at that timing's next pulse (R279). -/
def State.regrid (s : State) : State :=
  ((List.range 48).filter (fun n => (s.output n).on)).foldl (fun s n =>
    let o := s.output n
    let grid := fun (t : Timing) => gridAtOrAfter s.tbc s.anchor (framePeriod t.code) t.phase
    s.setOutput n { o with next := grid o.tim, retime := o.retime.map (fun _ => grid (s.timingOf n)) }) s

/-- JOIN_REFUSE (R141): passed on along its path, or this worker is refused, and asks again every 10 s. -/
def execJoinRefuse (p : Fin 4) (serial : BitVec 64) (hops : BitVec 8) (path : BitVec 16) (reason : BitVec 8) (at_ : Nat) (s : State) :
    Host.Outcome State Fault Refusal :=
  if !s.power.run ∨ (s.port p).lanes = 0 then .next s else
  let s := s.atTime at_
  if s.upPort ≠ some p.val then .next (s.spanViol 0x28 p 1 4)
  else if serial.toNat ≠ s.serial then
    let q := (path.toNat >>> (14 - 2 * min 7 s.ownDepth)) % 4
    .next (s.chanSend q 1 ([0x04#8] ++ toBE 8 serial.toNat ++ [hops] ++ toBE 2 path.toNat ++ [reason]))
  else if s.memberState ≠ 2 then .next (s.spanViol 0x28 p 1 4)
  else
    let s := ((s.spanViol 0x2B p 1 4).event 10).setN 0x1200 5 (if reason = 2#8 then 5 else 4)
    let s := { s with spans := { s.spans with joining := none, retryAt := some (s.tbc + 10 * Config.ticksPerSec) } }
    .next s.sendHellos

/-- JOIN_RETRY_TIMER: 10 s after a refusal the worker asks again (R141). -/
def execJoinRetryTimer (at_ : Nat) (s : State) : Host.Outcome State Fault Refusal :=
  match s.spans.retryAt with
  | none => .next s
  | some t =>
    if !s.power.run ∨ s.upPort.isNone then .next s else
    let s := (s.atTime t).atTime at_
    .next ((s.setN 0x1200 5 2).sendHellos).askJoin

/-! ## Leaving (R163) -/

/-- LEAVE: from a child, the addresses listed and those of no other route; from the parent, this worker's own. -/
def execLeave (p : Fin 4) (reason : BitVec 8) (addrs : List (BitVec 8)) (at_ : Nat) (s : State) : Host.Outcome State Fault Refusal :=
  if !s.power.run ∨ (s.port p).lanes = 0 then .next s else
  let s := s.atTime at_
  if s.upPort = some p.val then
    let mine := addrs.isEmpty || addrs.contains (BitVec.ofNat 8 s.ownAddr)
    if mine then .next (s.selfLeave.chooseUp)
    else .next (addrs.foldl (fun s a => s.sendDown a.toNat 1 (leaveMsg reason.toNat [a.toNat])) s)
  else if s.getN (0x2C00 + p) 2 ≠ 3 then .next (s.spanViol 0x28 p 1 5)
  else
    let ws := (addrs.map BitVec.toNat).filter (fun a => s.spans.members.any (fun m => m.addr == a && m.port == p.val))
    .next ((s.leaveBelow ws).showPorts)

/-! ## Roll call (R166, R167) -/

def rollMsg (gen : Nat) : List Byte := [0x06#8] ++ toBE 4 gen

/-- The roll call that the manager now begins. -/
def State.newRoll (s : State) (auto_ : Bool) : Roll := { gen := (s.spans.gen + 1) % 2 ^ 32, at_ := s.tbc, auto_ := auto_ }

/-- The manager sends ROLL down the tree. Each roll call has its own generation, and several may be in progress (R166). -/
def State.rollStart (s : State) (auto_ : Bool) : State :=
  let r := s.newRoll auto_
  let s := { s with spans := { s.spans with gen := r.gen, rolls := s.spans.rolls ++ [r] } }
  s.downPorts.foldl (fun s p => s.chanSend p 1 (rollMsg r.gen)) s

/-- This member's census entry (R167). The parent's address is the manager's to fill in (log entry 27). -/
def State.censusEntry (s : State) : List Byte :=
  let pp := (s.spans.path >>> (16 - 2 * min 8 s.spans.hops)) % 4
  let err := match s.upPort with
    | some p => toInt 32 (s.getN (0x2C00 + p) 6)
    | none => 0
  let ns := clampInt (-32768) 32767 (Int.tdiv err 1000)
  [BitVec.ofNat 8 s.ownAddr, BitVec.ofNat 8 s.ownDepth, 0#8, BitVec.ofNat 8 (pp * 16 + s.upPort.getD 15)] ++ toBE 8 s.serial ++
  toBE 2 (ofInt 16 ns) ++ toBE 2 (b2n (s.selected != some 4) + 2 * b2n (s.spans.evicted.length == 64))

/-- ROLL reaches a member: it passes it on and answers. -/
def execRoll (p : Fin 4) (gen : BitVec 32) (at_ : Nat) (s : State) : Host.Outcome State Fault Refusal :=
  if !s.power.run ∨ (s.port p).lanes = 0 then .next s else
  let s := s.atTime at_
  if s.upPort ≠ some p.val ∨ s.memberState ≠ 3 then .next (s.spanViol 0x28 p 1 6)
  else
    let s := s.downPorts.foldl (fun s q => s.chanSend q 1 (rollMsg gen.toNat)) s
    .next (s.sendUp 1 ([0x07#8] ++ toBE 4 gen.toNat ++ s.censusEntry))

/-- Whether a member is `m` or is routed through it (R163): its path begins with m's. -/
def Member.under (m x : Member) : Bool :=
  decide (m.depth ≤ x.depth) && decide (x.path >>> (16 - 2 * m.depth) = m.path >>> (16 - 2 * m.depth))

/-- The roll call ends; two automatic ones missed in succession are a leave of the worker and of all that is routed through it
(R163). -/
def State.rollEnd (s : State) (r : Roll) : State :=
  let s := s.rollClose r
  if !r.auto_ then s else
  let dead : List Member := s.spans.members.filter (fun m => decide (2 ≤ m.missed))
  let gone : List Member := s.spans.members.filter (fun x => dead.any (fun m => m.under x))
  let s : State := { s with spans := { s.spans with lost := gone.map (·.serial) ++ s.spans.lost } }
  s.leaveBelow (gone.map (·.addr))

/-- The manager takes a member's answer to a roll call; it ends when every present member has answered. -/
def State.rollTake (s : State) (r : Roll) (a : Nat) (e : List Byte) : State :=
  let r : Roll := { r with got := r.got.filter (fun g => g.1 != a) ++ [(a, e)] }
  let s := { s with spans := { s.spans with rolls := mapIf (fun x => x.gen == r.gen) (fun _ => r) s.spans.rolls } }
  if s.rollFull r then s.rollEnd r else s

/-- ROLL_RSP: a worker passes it upward; the manager records it, and a stranger is sent LEAVE (R166). -/
def execRollRsp (p : Fin 4) (gen : BitVec 32) (entry : List Byte) (at_ : Nat) (s : State) : Host.Outcome State Fault Refusal :=
  if !s.power.run ∨ (s.port p).lanes = 0 then .next s else
  let s := s.atTime at_
  if s.getN (0x2C00 + p) 2 ≠ 3 then .next (s.spanViol 0x28 p 1 7)
  else if !s.mgr then .next (s.sendUp 1 ([0x07#8] ++ toBE 4 gen.toNat ++ padTo 16 entry))
  else
    let e := padTo 16 entry
    let a := byteAt e 0
    match s.spans.members.find? (fun m => m.addr == a) with
    | none => .next (s.chanSend p 1 (leaveMsg 1 [a]))
    | some m =>
      match s.spans.rolls.find? (fun r => r.gen == gen.toNat) with
      | none => .next s
      | some r => .next (s.rollTake r a (patch e 2 [BitVec.ofNat 8 m.parent]))

/-- A roll call begins, and ends at once where no member is there to answer. -/
def State.rollBegin (s : State) (auto_ : Bool) : State :=
  let t := s.rollStart auto_
  if s.spans.members.isEmpty then t.rollEnd (s.newRoll auto_) else t

/-- ROLL_CALL_TIMER: the automatic roll call of every second. -/
def execRollCallTimer (at_ : Nat) (s : State) : Host.Outcome State Fault Refusal :=
  if !s.power.run ∨ !s.mgr then .next s else .next ((s.atTime at_).rollBegin true)

/-- ROLL_CALL_TIMEOUT: 20 ms after ROLL the oldest roll call in progress ends. -/
def execRollCallTimeout (at_ : Nat) (s : State) : Host.Outcome State Fault Refusal :=
  match s.spans.rolls with
  | [] => .next s
  | r :: _ =>
    if !s.power.run then .next s else
    .next (((s.atTime (r.at_ + 20 * Config.ticksPerMs)).atTime at_).rollEnd r)

/-- ROLL_CALLs kept over a data-plane stop are taken up when the bridge opens (R22). -/
def State.rollReissue (s : State) : State :=
  (s.queue.filter (fun e => e.res.isNone && e.job == .rollCall)).foldl (fun s _ => s.rollBegin false) s

/-- Every span port goes down with the data plane (R163): a manager's workers all leave; a worker leaves its tree. -/
def State.spansStop (s : State) : State :=
  let s := (List.range 4).foldl State.linkDrop s
  let s := { s with spans := { s.spans with rolls := [], lost := [] } }
  (List.range 4).foldl (fun s p => (s.setPort p {}).setN (0x2C00 + p) 2 0) s

/-- Every enabled port begins training at a data-plane start. -/
def State.spansStart (s : State) : State :=
  (List.range 4).foldl (fun s p => s.setN (0x2C00 + p) 2 (s.getN (0x2C00 + p) 1)) s

/-- A write of SP_ENABLE: 0 stops the port's transmitter, and the link goes down. -/
def State.spanEnable (s : State) (p : Nat) : State :=
  if s.getN (0x2C00 + p) 1 = 0 then (s.linkDrop p).setN (0x2C00 + p) 2 0
  else if (s.port p).lanes = 0 then s.setN (0x2C00 + p) 2 1 else s

end Sys2Proof.Machine
end

