-- ==== Sys2Proof/Machine/Access.lean ====
section
/-! DEFINITION. Steps 7–13 of the order of checks (R50) for an object, the staging store (R86, R87, R97), sessions and their
closing (R450), and the subscriptions that go with them (R175). -/
namespace Sys2Proof.Machine

/-! ## The object addressed (steps 7 and 8) -/

/-- The object at an index and subindex, or the code 0x03 or 0x04 (R77). -/
def State.findOr (s : State) (idx sub : Nat) : Nat ⊕ Obj :=
  match findRow s.mgr idx with
  | none => .inl 3
  | some r => match findSub r idx sub with
    | none => .inl 4
    | some o => .inr o

/-- The row whose record subindex 0xFF of an index is (R66, R520). -/
def State.recordRow (s : State) (idx : Nat) : Option Row :=
  (findRow s.mgr idx).bind (fun r => if dataPlane idx && (r.entries (idx - r.base)).isSome then some r else none)

/-- Objects whose WRITE is answered 0x0B in the frozen states although they are not RS (R184). -/
def frozenObj (idx sub : Nat) : Bool := (idx == 0x1F00 && (sub == 1 || sub == 4 || sub == 6)) || idx == 0x1F04

/-- Step 12 (R184, R198). -/
def State.freezeCheck (s : State) (o : Obj) : Bool :=
  ((o.d.acc == .rs || frozenObj o.idx o.sub) && s.frozen) ||
  (o.idx == 0x1F00 && o.sub == 5 && (s.koState == 3 || s.koState == 4)) ||
  (o.idx == 0x1F08 && o.sub == 1 && (s.whState == 1 || s.whState == 2))

/-- Step 9 for KO_ABANDON beyond its mask (R187): the Kickoff right, and while one is in progress only tenant 0 or its issuer. -/
def State.abandonDenied (s : State) (t : Nat) (o : Obj) : Bool :=
  o.idx == 0x1F00 && o.sub == 5 &&
    (!s.kickRight t || (s.frozen && t != 0 && (s.kick.map (·.ten)).getD 0 != t))

/-- A trigger (R521): a WO BOOL other than AR_PLAY. -/
def Obj.trigger (o : Obj) : Bool := o.d.acc == .wo && o.d.ty == .bool && !inRange o.idx 0x2748 16

/-- Whether a payload length fits the type of a WRITE (R47). -/
def lenOk (ty : Ty) (n : Nat) : Bool :=
  match ty with
  | .str => decide (1 ≤ n) && decide (n ≤ 32)
  | .dom _ => false
  | t => n == t.size

/-- Steps 9–13 for a WRITE of a payload to an object by tenant `t`: 0 when all pass. A trigger written 0x00 is answered 0x07
whatever the state of the device, so ahead of steps 11 and 12 (R521). -/
def State.writeCode (s : State) (t : Nat) (session : Bool) (o : Obj) (payload : List Byte) : Nat :=
  if !session || !s.admits t o true || s.abandonDenied t o then 6
  else if !lenOk o.d.ty payload.length then 5
  else if o.trigger && ofBE payload == 0 then 7
  else if o.d.maint && s.getN 0x1F20 0 == 0 then 0x0F
  else if s.freezeCheck o then 0x0B
  else if !o.inRng s.mgr (decodeVal o.d.ty payload) then 7
  else 0

/-- Steps 7–13 for a WRITE. -/
def State.writeCheck (s : State) (t : Nat) (session : Bool) (idx sub : Nat) (payload : List Byte) : Nat ⊕ Obj :=
  if sub = 0xFF ∧ (s.recordRow idx).isSome then .inl 6
  else match s.findOr idx sub with
    | .inl c => .inl c
    | .inr o => let c := s.writeCode t session o payload
                if c = 0 then .inr o else .inl c

/-! ## The staging store (R86, R87, R97) -/

/-- Whether a write of tenant `t` that needs a new entry finds the store, or its share, full (R87). -/
def State.stageFull (s : State) (t idx sub : Nat) : Bool :=
  (s.stagedAt idx sub).isNone &&
    (decide (Config.stagingCapacity ≤ s.staging.length) || (t != 0 && decide (s.getN 0x1F01 3 ≤ s.stagedBy t)))

/-- Enter a value (R86): an entry already there takes the new value and writer. -/
def State.stage (s : State) (t idx sub : Nat) (v : Val) : State :=
  let e : Staged := { idx := idx, sub := sub, ten := t, val := v }
  if (s.stagedAt idx sub).isSome then { s with staging := mapIf (fun (x : Staged) => x.idx == idx && x.sub == sub) (fun _ => e) s.staging }
  else { s with staging := s.staging ++ [e] }

/-- The tag value that a staged object carries, if it is a tag object (Tag objects; audit kind 9). -/
def Obj.tagValue (o : Obj) (v : Val) : Option Nat :=
  match o.own with
  | .tag k => if o.sub = k then some v.nat else none
  | _ => if inRange o.idx 0x2910 20 && inRange o.sub 0x11 8 then some (bits v.nat 6 0) else none

/-! ## Subscriptions (R172–R175) -/

/-- The value a subscription shows, in link order. -/
def State.subValue (s : State) (t idx sub : Nat) : List Byte :=
  match findObj s.mgr idx sub with
  | some o => encodeVal o.d.ty (s.view t idx sub)
  | none => []

/-- The fields that SUB, PUSH and SNOOP messages share. -/
def keyBytes (w t idx sub : Nat) : List Byte := [BitVec.ofNat 8 w, BitVec.ofNat 8 t] ++ toBE 2 idx ++ [BitVec.ofNat 8 sub]

/-- Drop a subscription (R175): EVICT with the last value, kept in the eviction buffer; with the buffer full it stays
active until an entry frees. `reason` is the case of R175, 1 removal, 2 change of owner, 3 session closed, whose code the manual does not give (log entry
28). -/
def State.dropSub (s : State) (u : Sub) (reason : Nat) : State :=
  let same := fun (x : Sub) => x.ten == u.ten && x.idx == u.idx && x.sub == u.sub
  if 64 ≤ s.spans.evicted.length then
    { s with spans := { s.spans with subs := mapIf same (fun x => { x with drop_ := true }) s.spans.subs } }
  else
    let v := s.subValue u.ten u.idx u.sub
    let e : Evicted := { ten := u.ten, idx := u.idx, sub := u.sub, val := v, latch := s.tbc }
    let s := { s with spans := { s.spans with subs := s.spans.subs.filter (fun x => !same x), evicted := s.spans.evicted ++ [e] } }
    s.sendUp 2 ([0x15#8] ++ keyBytes s.ownAddr u.ten u.idx u.sub ++ toBE 8 s.tbc ++ [BitVec.ofNat 8 v.length] ++ v ++ [Config.evictReason reason])

/-- Drop every subscription that a predicate selects; the one of EVENT_PENDING is never dropped (R172). -/
def State.dropSubs (s : State) (p : Sub → Bool) (reason : Nat) : State :=
  (s.spans.subs.filter (fun u => p u && !(u.ten == 0 && u.idx == 0x1400))).foldl (fun s u => s.dropSub u reason) s

/-- Subscriptions that a change of owner no longer admits (R175). -/
def State.dropLost (s : State) : State :=
  s.dropSubs (fun u => match findObj s.mgr u.idx u.sub with
    | some o => !s.admits u.ten o false
    | none => true) 2

/-! ## Sessions (R450, R496) -/

/-- Close a tenant's session, with the audit record of the given kind (R457). -/
def State.closeSession (s : State) (t by_ kind idx sub : Nat) : State :=
  if (s.tenant t).session then
    let s := (s.setTenant t { s.tenant t with session := false }).audit kind by_ t idx sub 0
    let s := if t = 0 then s.setN 0x1F20 0 0 else s
    if s.mgr then s else s.dropSubs (fun u => u.ten == t) 3
  else s

/-- An applied TN_CODE_LO write (R451): the code, audit kind 7, and the session closed where another tenant wrote it. -/
def State.newCode (s : State) (u by_ lo : Nat) : State :=
  match (s.tenant u).pendHi with
  | none => s
  | some hi =>
    let s := ((s.setN (0x1380 + u) 2 hi).setN (0x1380 + u) 3 lo).setTenant u { s.tenant u with pendHi := none }
    let s := s.audit 7 by_ u (0x1380 + u) 3 0
    if by_ = u then s else s.closeSession u by_ 6 (0x1380 + u) 3

/-- TN_ENABLE (R450). -/
def State.tnEnable (s : State) (u by_ v : Nat) : State :=
  let s := (s.setN (0x1380 + u) 1 v).audit 8 by_ u (0x1380 + u) 1 0
  if v = 0 then s.closeSession u by_ 6 (0x1380 + u) 1 else s

/-- The failure count counts as 0 once the lockout it led to has run out (R449). -/
def State.lockRefresh (s : State) (t : Nat) : State :=
  let x := s.tenant t
  if 8 ≤ x.fails ∧ x.lock = 0 then s.setTenant t { x with fails := 0, lockLogged := false } else s

/-- LOCKOUT_EXPIRY: the data plane's timer runs out; TBC moves to that instant (R449). -/
def execLockoutExpiry (t : Fin 128) (s : State) : Host.Outcome State Fault Refusal :=
  if s.power.run ∧ 0 < (s.tenant t).lock then .next (s.passTicks (s.tenant t).lock) else .next s

end Sys2Proof.Machine
end

