-- ==== Sys2Proof/Machine/CueInstr.lean ====
section
/-! DEFINITION. The meanings of the cue instructions (Encoding table, R427–R443), one for each row: the instruction as
context `x` issues it. A context that does not issue (halted, faulted, waiting, a cue port request in progress) does
nothing. -/
namespace Sys2Proof.Machine

/-- ADD: rd = ra + rb. -/
def execAdd (x : Fin 4) (rd ra rb : Fin 16) (s : State) : Host.Outcome State Fault Refusal :=
  .next (s.cueAlu x rd ra rb aluAdd)

/-- SUB: rd = ra − rb. -/
def execSub (x : Fin 4) (rd ra rb : Fin 16) (s : State) : Host.Outcome State Fault Refusal :=
  .next (s.cueAlu x rd ra rb aluSub)

/-- AND. -/
def execAnd (x : Fin 4) (rd ra rb : Fin 16) (s : State) : Host.Outcome State Fault Refusal :=
  .next (s.cueAlu x rd ra rb aluAnd)

/-- OR. -/
def execOr (x : Fin 4) (rd ra rb : Fin 16) (s : State) : Host.Outcome State Fault Refusal :=
  .next (s.cueAlu x rd ra rb aluOr)

/-- XOR. -/
def execXor (x : Fin 4) (rd ra rb : Fin 16) (s : State) : Host.Outcome State Fault Refusal :=
  .next (s.cueAlu x rd ra rb aluXor)

/-- SHL: left by rb mod 64. -/
def execShl (x : Fin 4) (rd ra rb : Fin 16) (s : State) : Host.Outcome State Fault Refusal :=
  .next (s.cueAlu x rd ra rb aluShl)

/-- SHR: right by rb mod 64, zeros in. -/
def execShr (x : Fin 4) (rd ra rb : Fin 16) (s : State) : Host.Outcome State Fault Refusal :=
  .next (s.cueAlu x rd ra rb aluShr)

/-- SRA: right by rb mod 64, sign in. -/
def execSra (x : Fin 4) (rd ra rb : Fin 16) (s : State) : Host.Outcome State Fault Refusal :=
  .next (s.cueAlu x rd ra rb aluSra)

/-- MUL: the low 64 bits of the product. -/
def execMul (x : Fin 4) (rd ra rb : Fin 16) (s : State) : Host.Outcome State Fault Refusal :=
  .next (s.cueAlu x rd ra rb aluMul)

/-- SLTU: unsigned set-less-than. -/
def execSltu (x : Fin 4) (rd ra rb : Fin 16) (s : State) : Host.Outcome State Fault Refusal :=
  .next (s.cueAlu x rd ra rb aluSltu)

/-- SLT: signed set-less-than. -/
def execSlt (x : Fin 4) (rd ra rb : Fin 16) (s : State) : Host.Outcome State Fault Refusal :=
  .next (s.cueAlu x rd ra rb aluSlt)

/-- ADDI. -/
def execAddi (x : Fin 4) (rd ra : Fin 16) (imm : BitVec 16) (s : State) : Host.Outcome State Fault Refusal :=
  .next (s.cueImm x rd ra (fun a => a + sext16 imm))

/-- ANDI, the immediate zero-extended. -/
def execAndi (x : Fin 4) (rd ra : Fin 16) (imm : BitVec 16) (s : State) : Host.Outcome State Fault Refusal :=
  .next (s.cueImm x rd ra (fun a => a &&& zext16 imm))

/-- ORI. -/
def execOri (x : Fin 4) (rd ra : Fin 16) (imm : BitVec 16) (s : State) : Host.Outcome State Fault Refusal :=
  .next (s.cueImm x rd ra (fun a => a ||| zext16 imm))

/-- XORI. -/
def execXori (x : Fin 4) (rd ra : Fin 16) (imm : BitVec 16) (s : State) : Host.Outcome State Fault Refusal :=
  .next (s.cueImm x rd ra (fun a => a ^^^ zext16 imm))

/-- SLTIU: unsigned, against the sign-extended immediate. -/
def execSltiu (x : Fin 4) (rd ra : Fin 16) (imm : BitVec 16) (s : State) : Host.Outcome State Fault Refusal :=
  .next (s.cueImm x rd ra (fun a => aluSltu a (sext16 imm)))

/-- SLTI. -/
def execSlti (x : Fin 4) (rd ra : Fin 16) (imm : BitVec 16) (s : State) : Host.Outcome State Fault Refusal :=
  .next (s.cueImm x rd ra (fun a => aluSlt a (sext16 imm)))

/-- SHLI: by an immediate of 0–63. -/
def execShli (x : Fin 4) (rd ra : Fin 16) (n : Fin 64) (s : State) : Host.Outcome State Fault Refusal :=
  .next (s.cueImm x rd ra (fun a => aluShl a (BitVec.ofNat 64 n)))

/-- SHRI: by an immediate of 0–63. -/
def execShri (x : Fin 4) (rd ra : Fin 16) (n : Fin 64) (s : State) : Host.Outcome State Fault Refusal :=
  .next (s.cueImm x rd ra (fun a => aluShr a (BitVec.ofNat 64 n)))

/-- SRAI: by an immediate of 0–63. -/
def execSrai (x : Fin 4) (rd ra : Fin 16) (n : Fin 64) (s : State) : Host.Outcome State Fault Refusal :=
  .next (s.cueImm x rd ra (fun a => aluSra a (BitVec.ofNat 64 n)))

/-- MOVK: field k of rd becomes the immediate; the other bits are kept. -/
def execMovk (x : Fin 4) (rd : Fin 16) (imm : BitVec 16) (k : Fin 4) (s : State) : Host.Outcome State Fault Refusal :=
  .next (s.cueImm x rd rd (fun v => movField v k imm))

/-- LB: 8 bits, zero-extended. -/
def execLb (x : Fin 4) (rd ra : Fin 16) (imm : BitVec 16) (s : State) : Host.Outcome State Fault Refusal :=
  .next (s.cueLoad x rd ra imm 1)

/-- LH: 16 bits, zero-extended. -/
def execLh (x : Fin 4) (rd ra : Fin 16) (imm : BitVec 16) (s : State) : Host.Outcome State Fault Refusal :=
  .next (s.cueLoad x rd ra imm 2)

/-- LW: 32 bits, zero-extended. -/
def execLw (x : Fin 4) (rd ra : Fin 16) (imm : BitVec 16) (s : State) : Host.Outcome State Fault Refusal :=
  .next (s.cueLoad x rd ra imm 4)

/-- LD: 64 bits, zero-extended. -/
def execLd (x : Fin 4) (rd ra : Fin 16) (imm : BitVec 16) (s : State) : Host.Outcome State Fault Refusal :=
  .next (s.cueLoad x rd ra imm 8)

/-- SB: the low 8 bits of rs. -/
def execSb (x : Fin 4) (rs ra : Fin 16) (imm : BitVec 16) (s : State) : Host.Outcome State Fault Refusal :=
  .next (s.cueStore x rs ra imm 1)

/-- SH: the low 16 bits of rs. -/
def execSh (x : Fin 4) (rs ra : Fin 16) (imm : BitVec 16) (s : State) : Host.Outcome State Fault Refusal :=
  .next (s.cueStore x rs ra imm 2)

/-- SW: the low 32 bits of rs. -/
def execSw (x : Fin 4) (rs ra : Fin 16) (imm : BitVec 16) (s : State) : Host.Outcome State Fault Refusal :=
  .next (s.cueStore x rs ra imm 4)

/-- SD: the low 64 bits of rs. -/
def execSd (x : Fin 4) (rs ra : Fin 16) (imm : BitVec 16) (s : State) : Host.Outcome State Fault Refusal :=
  .next (s.cueStore x rs ra imm 8)

/-- XCHG; `broken` says that its lock was broken (R402). -/
def execXchg (x : Fin 4) (rd ra rb : Fin 16) (broken : Bool) (s : State) : Host.Outcome State Fault Refusal :=
  .next (s.cueXchg x rd ra rb broken)

/-- BEQ. -/
def execBeq (x : Fin 4) (ra rb : Fin 16) (off : BitVec 16) (s : State) : Host.Outcome State Fault Refusal :=
  .next (s.cueBranch x ra rb off (fun a b => a == b))

/-- BNE. -/
def execBne (x : Fin 4) (ra rb : Fin 16) (off : BitVec 16) (s : State) : Host.Outcome State Fault Refusal :=
  .next (s.cueBranch x ra rb off (fun a b => a != b))

/-- BLT. -/
def execBlt (x : Fin 4) (ra rb : Fin 16) (off : BitVec 16) (s : State) : Host.Outcome State Fault Refusal :=
  .next (s.cueBranch x ra rb off (fun a b => a.slt b))

/-- BGE. -/
def execBge (x : Fin 4) (ra rb : Fin 16) (off : BitVec 16) (s : State) : Host.Outcome State Fault Refusal :=
  .next (s.cueBranch x ra rb off (fun a b => !a.slt b))

/-- BLTU. -/
def execBltu (x : Fin 4) (ra rb : Fin 16) (off : BitVec 16) (s : State) : Host.Outcome State Fault Refusal :=
  .next (s.cueBranch x ra rb off (fun a b => a.ult b))

/-- BGEU. -/
def execBgeu (x : Fin 4) (ra rb : Fin 16) (off : BitVec 16) (s : State) : Host.Outcome State Fault Refusal :=
  .next (s.cueBranch x ra rb off (fun a b => !a.ult b))

/-- JAL: rd = PC + 4, PC-relative jump. -/
def execJal (x : Fin 4) (rd : Fin 16) (off : BitVec 20) (s : State) : Host.Outcome State Fault Refusal :=
  .next (s.cueJal x rd off)

/-- JALR: the target is taken before rd is written. -/
def execJalr (x : Fin 4) (rd ra : Fin 16) (imm : BitVec 16) (s : State) : Host.Outcome State Fault Refusal :=
  .next (s.cueJalr x rd ra imm)

/-- TBC: rd = TBC. -/
def execTbc (x : Fin 4) (rd : Fin 16) (s : State) : Host.Outcome State Fault Refusal :=
  .next (s.cueTbc x rd)

/-- WAITT. -/
def execWaitt (x : Fin 4) (ra : Fin 16) (s : State) : Host.Outcome State Fault Refusal :=
  .next (s.cueWaitt x ra)

/-- WAITF. -/
def execWaitf (x : Fin 4) (rd ra : Fin 16) (s : State) : Host.Outcome State Fault Refusal :=
  .next (s.cueWaitf x rd ra)

/-- SIG. -/
def execSig (x : Fin 4) (mask : BitVec 4) (imm : BitVec 16) (s : State) : Host.Outcome State Fault Refusal :=
  .next (s.cueSig x mask imm)

/-- WAITS. -/
def execWaits (x : Fin 4) (rd : Fin 16) (imm : BitVec 16) (s : State) : Host.Outcome State Fault Refusal :=
  .next (s.cueWaits x rd imm)

/-- GETS: rd = cs. -/
def execGets (x : Fin 4) (rd : Fin 16) (s : State) : Host.Outcome State Fault Refusal :=
  .next (s.cueGets x rd)

/-- DRD: the request goes to the cue port; CUE_PORT_COMPLETE ends it. -/
def execDrd (x : Fin 4) (rd ra : Fin 16) (s : State) : Host.Outcome State Fault Refusal :=
  .next (s.cuePort x 0x48 rd ra 0)

/-- DWR. -/
def execDwr (x : Fin 4) (ra rb : Fin 16) (s : State) : Host.Outcome State Fault Refusal :=
  .next (s.cuePort x 0x49 0 ra rb)

/-- PREP. -/
def execPrep (x : Fin 4) (s : State) : Host.Outcome State Fault Refusal :=
  .next (s.cuePort x 0x4B 0 0 0)

/-- KICK. -/
def execKick (x : Fin 4) (ra : Fin 16) (s : State) : Host.Outcome State Fault Refusal :=
  .next (s.cuePort x 0x4C 0 ra 0)

/-- WHIS. -/
def execWhis (x : Fin 4) (ra : Fin 16) (s : State) : Host.Outcome State Fault Refusal :=
  .next (s.cuePort x 0x4D 0 ra 0)

/-- KWAIT. -/
def execKwait (x : Fin 4) (rd : Fin 16) (w : Fin 2) (s : State) : Host.Outcome State Fault Refusal :=
  .next (s.cueKwait x rd w)

/-- BLIT: loads the descriptor and queues it. -/
def execBlit (x : Fin 4) (ra : Fin 16) (s : State) : Host.Outcome State Fault Refusal :=
  .next (s.cueBlit x ra)

/-- BWAIT. -/
def execBwait (x : Fin 4) (s : State) : Host.Outcome State Fault Refusal :=
  .next (s.cueBwait x)

/-- PLAY. -/
def execPlay (x : Fin 4) (ra rb : Fin 16) (s : State) : Host.Outcome State Fault Refusal :=
  .next (s.cuePort x 0x52 0 ra rb)

/-- POST. -/
def execPost (x : Fin 4) (val : BitVec 8) (s : State) : Host.Outcome State Fault Refusal :=
  .next (s.cuePost x val.toNat)

/-- NOP. -/
def execNop (x : Fin 4) (s : State) : Host.Outcome State Fault Refusal :=
  .next (s.cueNop x)

/-- HALT: PC points past it. -/
def execHalt (x : Fin 4) (s : State) : Host.Outcome State Fault Refusal :=
  .next (s.cueHalt x)

/-- ILLEGAL_INSTRUCTION: the word at PC is not a defined instruction, and the context faults with cause 0x01; a defined word
is none, and nothing happens. -/
def execIllegalInstruction (x : Fin 4) (word : BitVec 32) (s : State) : Host.Outcome State Fault Refusal :=
  if s.issues x then
    let t := s.cueRun x word.toNat
    .next (if t = s.cueFault x 1 0 then t else s)
  else .next s

/-- CUE_MEMORY_RESPONSE: the fetch response arrives, and the context runs the instruction or faults precisely (R429, R430). -/
def execCueMemoryResponse (x : Fin 4) (at_ : Nat) (s : State) : Host.Outcome State Fault Refusal :=
  if s.issues x then .next ((s.atTime at_).cueFetch x) else .next s

/-- WAITT_DONE: TBC reaches the awaited value (R438). -/
def execWaittDone (x : Fin 4) (s : State) : Host.Outcome State Fault Refusal :=
  let c := s.ctx x
  if s.power.run ∧ c.st = 2 ∧ c.wait = 1 then
    let s := s.atTime c.waitOn
    .next (s.cueDone x (s.ctx x))
  else .next s

/-- WAITF_DONE: the output's next frame start has come; its nominal grid value goes to rd (R438). -/
def execWaitfDone (x : Fin 4) (s : State) : Host.Outcome State Fault Refusal :=
  let c := s.ctx x
  let o : Output := tabGet {} s.outputs (c.waitOn % 64)
  if s.power.run ∧ c.st = 2 ∧ c.wait = 2 ∧ o.frames ≠ c.waitOn / 64 then
    .next (s.cueDone x { c.setReg c.waitRd (BitVec.ofNat 64 o.start) with cs := 0 })
  else .next s

/-- WAITS_DONE: an awaited signal bit is set (R439). -/
def execWaitsDone (x : Fin 4) (s : State) : Host.Outcome State Fault Refusal :=
  let c := s.ctx x
  if s.power.run ∧ c.st = 2 ∧ c.wait = 3 ∧ c.sig &&& c.waitOn ≠ 0 then .next (s.cueTakeSig x c.waitRd c.waitOn) else .next s

/-- KWAIT_DONE: the Kickoff or Whistle has settled (R437). -/
def execKwaitDone (x : Fin 4) (s : State) : Host.Outcome State Fault Refusal :=
  let c := s.ctx x
  if s.power.run ∧ c.st = 2 ∧ c.wait = 4 ∧ !s.kwaitBusy c.waitOn then .next (s.cueKwaitEnd x c.waitRd c.waitOn) else .next s

/-- BWAIT_DONE: the context's last blit has ended (R441). -/
def execBwaitDone (x : Fin 4) (s : State) : Host.Outcome State Fault Refusal :=
  let c := s.ctx x
  if s.power.run ∧ c.st = 2 ∧ c.wait = 5 ∧ !s.blitsOf x then .next (s.cueBwaitEnd x) else .next s

/-- BLIT_EXECUTE: the engine runs up to `rows` rows of the blit at the head of the queue (R440, R441). -/
def execBlitExecute (rows : Nat) (at_ : Nat) (s : State) : Host.Outcome State Fault Refusal :=
  if !s.power.run then .next s else
  match s.cue.blits with
  | [] => .next s
  | b :: rest =>
    let (s, e) := (s.atTime at_).blitRows rows b
    let left := match e with
      | some b' => b' :: rest
      | none => rest
    .next { s with cue := { s.cue with blits := left } }

end Sys2Proof.Machine
end

