-- ==== Sys2Proof/Machine/Prepare.lean ====
section
/-! DEFINITION. Prepare (R85, R179, R187, R191, R192 and the cross-object checks of the chapters): the configuration that
will be active after the commit, the checks it must pass, the count of pool units, and this device's own answer. -/
namespace Sys2Proof.Machine

/-! ## The configuration after the commit -/

/-- The state with entries laid over the active values. -/
def State.overlay (s : State) (es : List Staged) : State := es.foldl (fun s e => s.setV e.idx e.sub e.val) s

/-- Whether the mask still admits an entry's writer under the owner after the commit (R85). -/
def State.keeps (c : State) (e : Staged) : Bool :=
  match findObj c.mgr e.idx e.sub with
  | some o => maskAdmits o.d.mask (c.owner o) e.ten true
  | none => false

/-- Remove what R85 removes, with its violations; `c` is the configuration after the commit. -/
def State.prune (s c : State) : State :=
  let out := s.staging.filter (fun e => !c.keeps e)
  let s := { s with staging := s.staging.filter (fun e => c.keeps e) }
  out.foldl (fun s e => s.violation 0x30 ([e.ten, e.sub, 0, 0].map (BitVec.ofNat 8) ++ toLE 2 e.idx)) s

/-! ## Placement (R225, R364) -/

/-- Whether `n` bytes from `a` lie in implemented SRAM: every bank ON and not failed. -/
def State.inSram (c : State) (a n : Nat) : Bool :=
  decide (sramBase ≤ a) && decide (a + n ≤ sramBase + sramSize) &&
  (List.range ((a + n - 1 - sramBase) / 0x20000 + 1 - (a - sramBase) / 0x20000)).all (fun i =>
    let b := (a - sramBase) / 0x20000 + i
    powerCode (c.getB 0x2902 0) b == 0 && !c.bank.lfailed.contains b)

/-- Whether `n` bytes from `a` lie in implemented SRAM or usable DRAM. -/
def State.inMemory (c : State) (a n : Nat) : Bool :=
  c.inSram a n || (decide (dramBase ≤ a) && decide (a + n ≤ dramBase + c.dramU))

/-- A refusal of check 0x14 by an instance, naming an object. -/
def refuse14 (inst idx sub : Nat) : Refuse := { check := 0x14, inst := inst, obj := idx * 256 + sub }

/-- A refusal list of one when a condition fails. -/
def failIf (b : Bool) (r : Refuse) : List Refuse := if b then [r] else []

/-- Whether a tag `t` may meet an instance of tag `u` (R269, R323, R353). -/
def tagsMeet (t u : Nat) : Bool := t == 0 || u == 0 || t == u

/-! ## Inputs (R209, R225) -/

/-- Whether an input has a ring: enabled, and not a DP group's lane that carries no video (R210). -/
def State.ringOn (c : State) (n : Nat) : Bool :=
  if n < 32 then c.getN (0x2100 + n) 1 != 0 && !c.dpMember n
  else c.getN (0x2140 + (n - 32)) 1 == 1 && c.getN (0x2140 + (n - 32)) 3 != 2 && fmtValid (c.inReserve n)

def State.ringSize (c : State) (n : Nat) : Nat := ringBytes (c.inReserve n) (c.inDepth n) (c.inDeint n)

/-- Index and subindex a ring's refusal names. -/
def ringObj (n : Nat) : Nat × Nat := if n < 32 then (0x2100 + n, 0x0D) else (0x2140 + (n - 32), 5)

def State.checkInputs (c : State) : List Refuse :=
  let on := (List.range 64).filter c.ringOn
  let groups := (List.range 8).flatMap (fun k =>
    let m := ((List.range 4).filter (fun i => c.getN (0x2100 + 4 * k + i) 1 == 6)).length
    failIf (m != 0 && m != 4) (refuse14 (4 * k) (0x2100 + 4 * k) 1))
  let rings := on.flatMap (fun n =>
    let a := c.ringBase n; let z := c.ringSize n
    let ok := a % 4096 == 0 && c.inMemory a z && (decide (n < 32) || decide (z ≤ 0x04000000)) &&
      on.all (fun m => m == n || decide (c.ringBase m + c.ringSize m ≤ a) || decide (a + z ≤ c.ringBase m))
    failIf (!ok) (refuse14 n (ringObj n).1 (ringObj n).2))
  groups ++ rings

/-! ## Layers, library entries, safe scenes (R241, R245, R247, R253, R267, R269) -/

/-- Whether a library reference of a referrer with tag `t` is sound: none, or valid content of its kind and a tag that may be
used. -/
def State.libOk (c : State) (ref kind t : Nat) : Bool :=
  ref == 0xFF || (libValid kind (c.getN (0x2600 + ref) 1) (c.getB (0x2600 + ref) 2) &&
    (c.getN (0x2600 + ref) 4 == 0 || c.getN (0x2600 + ref) 4 == t))

/-- The scale ratios and the crop area of a video layer, of VL_CROP as it stands, or of the reserve format for a whole-frame crop
(R247). -/
def State.scaleOk (c : State) (l : Layer) : Bool :=
  let fm := c.inReserve (c.vlSource l.e)
  let crop := c.getN l.idx 3
  let whole := bits crop 31 16 == 0 || bits crop 15 0 == 0
  let cw := if whole then fmtW fm else bits crop 31 16
  let ch := if whole then fmtH fm else bits crop 15 0
  let (dw, dh) := c.lSize l
  decide (0 < cw) && decide (0 < ch) && decide (cw ≤ 4 * dw) && decide (dw ≤ 32 * cw) && decide (ch ≤ 4 * dh) && decide (dh ≤ 32 * ch) &&
    decide (cw * ch ≤ 4 * (dw * dh))

/-- R253 for a surface. -/
def surfaceOk (inside : Nat → Nat → Bool) (a stride w h format : Nat) : Bool :=
  a % 64 == 0 && stride % 64 == 0 && decide (ceilDiv (w * bppOf format) 8 ≤ stride) && inside a (stride * h)

/-- The subindex of the first condition of R269 that a layer fails, 0 where it passes. -/
def State.layerFail (c : State) (l : Layer) : Nat :=
  let o := c.lOut l; let t := c.lTag l; let i := l.idx
  if c.gangMember o then 1
  else if !tagsMeet t (c.getN (0x2200 + o) 7) then 1
  else if !l.gl then
    if !c.scaleOk l then 3
    else if !tagsMeet t (c.inTag (c.vlSource l.e)) then 2
    else if !c.libOk (c.getN i 9) 1 t then 9
    else if !c.libOk (c.getN i 0x0A) 2 t then 0x0A else 0
  else if !surfaceOk c.inMemory (c.getN i 2) (c.getN i 3) (c.lSize l).1 (c.lSize l).2 (c.lFormat l) then 2
  else if !c.libOk (c.getN i 0x0C) 2 t then 0x0C
  else if c.lFormat l == 5 && !c.libOk (c.getN i 0x0A) 4 t then 0x0A else 0

def State.assigned (c : State) : List Layer := allLayers.filter (fun l => c.lOut l != 0xFF)

def State.checkLayers (c : State) : List Refuse :=
  c.assigned.flatMap (fun l => let f := c.layerFail l; failIf (f != 0) (refuse14 l.id l.idx f))

/-- Layers per output (R241). -/
def State.checkLimits (c : State) : List Refuse :=
  (List.range 48).flatMap (fun n =>
    [false, true].flatMap (fun g =>
      let k := (c.assigned.filter (fun l => l.gl == g && c.lOut l == n)).length
      failIf (decide (8 < k)) { check := if g then 4 else 3, inst := n, demand := k, cap := 8 }))

/-- A safe scene passes R267. -/
def State.sceneOk (c : State) (l : List Byte) : Bool :=
  let w := leAt l 20 2; let h := leAt l 22 2; let f := byteAt l 28
  bits (leAt l 0 4) 31 30 == 0 && leAt l 29 3 == 0 &&
    (w == 0 || ([1, 3, 6, 7].contains f && decide (1 ≤ h) && surfaceOk c.inSram (leAt l 8 8) (leAt l 16 4) w h f))

/-! ## Outputs (R136, R271, R272, R274, R277) -/

/-- Whether OUT_TOTALS and OUT_SYNC describe a timing. -/
def syncOk (t : Timing) (totals sync : Nat) : Bool :=
  totals == 0 ||
    (decide (1 ≤ bits sync 47 32) && decide (1 ≤ bits sync 15 2) &&
     decide (bits sync 63 48 + bits sync 47 32 + t.w + 1 ≤ t.ht) && decide (bits sync 31 16 + bits sync 15 2 + t.h + 1 ≤ t.vt))

/-- The pixel rate over a common denominator of the frame periods: Hz times `pixScale`. -/
def pixScale : Nat := 27027000000
def Timing.pixRate (t : Timing) : Nat := t.ht * t.vt * Config.ticksPerSec * (pixScale / max 1 (framePeriod t.code))
def mhz (n : Nat) : Nat := n * 1000000 * pixScale

/-- The subindex of the first condition of R277 that an enabled output fails, 0 where it passes. -/
def State.outFail (c : State) (n : Nat) : Nat :=
  let i := 0x2200 + n
  let t := c.timingOf n
  let f := t.pixRate
  let gang := c.getN i 3 == 1
  let mode := c.getN i 1; let lanes := c.getN i 0x0B
  if t.ht = 0 ∨ t.vt = 0 then (if c.getN i 0x0F = 0 then 2 else 0x10)
  else if !syncOk t (c.getN i 0x0F) (c.getN i 0x10) then 0x10
  else if f < mhz 25 || (if gang then mhz 600 else mhz 165) < f then 2
  else if gang && (mode != 1 && mode != 2 || lanes != 4 || t.w % 256 != 0) then 3
  else if (mode == 1 || mode == 2) && n % lanes != 0 then 0x0B
  else if (mode == 1 || mode == 2) && !gang && (List.range (lanes - 1)).any (fun j => c.getN (i + 1 + j) 1 != 0) then 0x0B
  else if (mode == 1 || mode == 2) && !linkFits t (c.getN i 0x0D) lanes (c.getN i 0x0C) then 0x0C
  else if mode == 3 && (decide (f < 2 * mhz 20) || decide (2 * mhz 112 < f)) then 1
  else if mode == 4 && (decide (f < mhz 20) || decide (mhz 112 < f)) then 1
  else 0

/-- The subindex of a reference of an output that fails R245, R267 or R269, 0 where they pass. OUT_MODE does not matter to it. -/
def State.outRefFail (c : State) (n : Nat) : Nat :=
  let i := 0x2200 + n
  if !c.libOk (c.getN i 8) 3 (c.getN i 7) then 8
  else match c.safeScene n with
    | some l => if c.sceneOk l then 0 else 6
    | none => 0

def State.checkOutputs (c : State) : List Refuse :=
  let each := (List.range 48).flatMap (fun n =>
    let i := 0x2200 + n
    if c.gangMember n then [] else
    let ph := toInt 32 (c.getN i 0x0A)
    failIf (decide (framePeriod (fmtRate (c.getN i 2)) ≤ ph.natAbs)) { check := 0x10, obj := i * 256 + 0x0A } ++
    (let f := if c.getN i 1 = 0 ∨ c.outFail n = 0 then c.outRefFail n else c.outFail n
     failIf (f != 0) (refuse14 (0x300 + n) i f)))
  let total := (((List.range 48).filter c.outActive).map (fun n => (c.timingOf n).pixRate)).foldl (· + ·) 0
  each ++ failIf (decide (mhz 7900 < total)) { check := 0x14, inst := 0x330 }

/-! ## Audio (R304, R306, R308, R310, R311, R316, R323) -/

/-- The tag of a source's instance. -/
def State.srcTag (c : State) (e : Nat) : Nat :=
  let k := srcInst e
  if srcKind e = 1 then c.getN (0x2100 + k) 0x0A else if srcKind e = 2 then c.getN (0x2140 + k) 0x10
  else if srcKind e = 3 then c.getN (0x2700 + k) 0x0C else c.getN (0x2748 + k) 0x0C

/-- The KD_INSTANCE under which source `k` fails for a destination of tag `t`; `none` where it passes. -/
def State.srcFail (c : State) (k t : Nat) : Option Nat :=
  let e := c.srcEntry k; let i := srcInst e; let ch := srcChan e
  let range := if srcKind e = 1 ∨ srcKind e = 2 then decide (i ≤ 31) && decide (ch ≤ 15)
    else if srcKind e = 3 then decide (i ≤ 15) && decide (ch ≤ 15)
    else if srcKind e = 4 then decide (i ≤ 15) && [1, 2].contains (c.getN (0x2748 + i) 1) && decide (ch < c.ringChannels i) else false
  if 512 ≤ k ∨ range = false ∨ tagsMeet t (c.srcTag e) = false then some (0x400 + k)
  else if srcKind e = 3 ∧ (bitAt (c.getN (0x2700 + i) 5) ch = false ∨
      (srcAsrc e = false ∧ sapMaster (c.getN (0x2700 + i) 1) ∧ audioRate (c.getN (0x2700 + i) 0x0F) ≠ c.matrixRate)) then some (0x600 + i)
  else if srcKind e = 4 ∧ srcAsrc e = false ∧ audioRate (c.getN (0x2748 + i) 6) ≠ c.matrixRate then some (0x620 + i)
  else none

/-- A serial port's own settings: the subindex that fails, 0 where they pass. -/
def State.sapFail (c : State) (n : Nat) : Nat :=
  let i := 0x2700 + n
  let rx := c.getN i 1; let tx := c.getN i 2; let slots := c.getN i 3
  let bclk := fun (m r : Nat) => sapMaster m && decide (49152000 < audioRate r * slots * c.getN i 4)
  if (rx == 1 || rx == 2 || tx == 1 || tx == 2) && slots != 2 then 3
  else if 2 ^ slots ≤ c.getN i 5 then 5
  else if 2 ^ slots ≤ c.getN i 6 then 6
  else if bclk rx (c.getN i 0x0F) then 0x0F
  else if bclk tx (c.getN i 0x10) then 0x10
  else if sapMaster tx && c.getN i 0x11 == 0 && audioRate (c.getN i 0x10) != c.matrixRate then 0x10
  else 0

/-- The instance of a destination's own form that cannot take it: an output that cannot embed, a slot outside the mask. -/
def State.destFail (c : State) (d : Nat) : Option Nat :=
  if d < 384 then
    if c.getN (0x2200 + d / 8) 1 ≠ 1 ∨ c.gangMember (d / 8) then some (0x640 + d / 8) else none
  else if d < 640 then
    if bitAt (c.getN (0x2700 + (d - 384) / 16) 6) ((d - 384) % 16) then none else some (0x600 + (d - 384) / 16)
  else none

def State.checkAudio (c : State) : List Refuse :=
  let on := (List.range destCount).filter c.destOn
  let dests := on.flatMap (fun d =>
    let o := routeObj d
    (match c.destFail d with
      | some k => [refuse14 k o.1 o.2]
      | none => []) ++
    (match c.srcFail (routeSrc (c.route d)) (c.destTag d) with
      | some k => [refuse14 k o.1 o.2]
      | none => []))
  let saps := (List.range 16).flatMap (fun n => let f := c.sapFail n; failIf (f != 0) (refuse14 (0x600 + n) (0x2700 + n) f))
  let need := (on.map c.delayBytes).foldl (· + ·) 0
  let base := c.getN 0x2740 5; let size := c.getN 0x2740 6
  -- every enabled ring of the configuration, and the delay area where a line uses it, under its KD_INSTANCE (R225)
  let areas := ((List.range 64).filter c.ringOn).map (fun n => (n, c.ringBase n, c.ringSize n)) ++
    ((List.range 16).filter (fun r => c.getN (0x2748 + r) 1 != 0)).map (fun r => (0x620 + r, c.getN (0x2748 + r) 2, 64 + c.getN (0x2748 + r) 3)) ++
    (if need = 0 then [] else [(0x680, base, size)])
  let apart := fun (k a z : Nat) => areas.all (fun m => m.1 == k || decide (m.2.1 + m.2.2 ≤ a) || decide (a + z ≤ m.2.1))
  let rings := (List.range 16).flatMap (fun r =>
    let i := 0x2748 + r
    let a := c.getN i 2; let z := 64 + c.getN i 3
    failIf (c.getN i 1 != 0 && (a % 64 != 0 || decide (c.frameBytes r = 0) || decide (c.ringFrames r < 2) || !c.inMemory a z ||
      !apart (0x620 + r) a z)) (refuse14 (0x620 + r) i 2))
  let delay := failIf (decide (size < need)) (refuse14 0x680 0x2740 6) ++
    failIf (need != 0 && (base % 4096 != 0 || !c.inMemory base size || !apart 0x680 base size)) (refuse14 0x680 0x2740 5)
  dests ++ saps ++ rings ++ delay

/-! ## Lamps (R327, R331, R353) -/

/-- Whether a locked PWM period lies within 20–80 µs. -/
def Timing.pwmOk (t : Timing) : Bool :=
  let p := framePeriod t.code
  let n := pwmLines t
  t.vt != 0 && decide (20 * (t.vt * 27) ≤ n * p) && decide (n * p ≤ 80 * (t.vt * 27))

def State.lampFail (c : State) (n : Nat) : Nat :=
  let i := 0x2800 + n
  let z := c.getN i 0x0A; let o := bits z 15 8; let grid := c.getN (0x2500 + o) 2
  let lk := c.getN i 0x0F; let m := c.leader lk; let t := c.getN i 0x0B
  let prod := c.getN i 7 * c.getN i 0x10
  if c.getN i 1 == 1 && (decide (2 * prod < 1000000) || decide (1000000 < prod)) then 7
  else if z != 0xFFFF && (!c.outActive o || decide (bits grid 15 8 * bits grid 7 0 ≤ bits z 7 0) || !tagsMeet t (c.getN (0x2200 + o) 7)) then 0x0A
  else if c.getN i 0x0E < c.getN i 0x0D then 0x0D
  else if lk != 0xFF && (c.getN (0x2200 + m) 1 == 0 || !(c.timingOf m).pwmOk || !tagsMeet t (c.getN (0x2200 + m) 7)) then 0x0F
  else if decide (c.getN i 6 < 8) && c.getN (0x2850 + c.getN i 6) 1 == 0 then 6
  else 0

def State.checkLamps (c : State) : List Refuse :=
  (List.range 48).flatMap (fun n => let f := c.lampFail n; failIf (f != 0) (refuse14 (0x700 + n) (0x2800 + n) f)) ++
  (List.range 5).flatMap (fun k =>
    let l := c.getB (0x2840 + k) 1
    failIf (l.length != 32 || !words16Ge 0x4000 l) (refuse14 (0x760 + k) (0x2840 + k) 1))

/-! ## Gates, logs and the snapshot area (R373, R465, R491) -/

def State.checkMemory (c : State) : List Refuse :=
  let gates := (List.range 20).flatMap (fun m => (List.range 8).flatMap (fun g =>
    failIf (bitAt (c.getN (0x2910 + m) (0x11 + g)) 15 && decide (c.getN (0x2910 + m) (9 + g) < c.getN (0x2910 + m) (1 + g)))
      (refuse14 (0xA00 + 8 * m + g) (0x2910 + m) (1 + g))))
  let la := c.getN 0x1430 0
  let a := c.getN 0x1501 1; let n := c.getN 0x1501 2
  gates ++ failIf (la % 0x4000 != 0 || !c.inSram la 0x4000) (refuse14 0xB00 0x1430 0) ++
  failIf (a % 4096 != 0 || n % 4096 != 0 || decide (a < 0x10000000) || decide (0x10400000 < a + n) ||
    (decide (a < la + 0x4000) && decide (la < a + n))) (refuse14 0xB10 0x1501 1)

/-! ## Tunnels (R177–R179) -/

/-- Whether a Kickoff sets up a virtual input's tunnel: enabled after it, and not already with the same settings. -/
def State.tunnelNew (s c : State) (v : Nat) : Bool :=
  let i := 0x2140 + v
  c.getN i 1 == 1 && (s.getN i 1 != 1 || [2, 3, 4, 5, 6].any (fun k => s.getN i k != c.getN i k))

/-- The reservation a virtual input asks for (R178). -/
def State.tunnelMbps (c : State) (v : Nat) : Nat :=
  let i := 0x2140 + v
  reserveMbps (c.getN i 3) (c.getN i 4) (c.getN i 5) (c.getN i 6)

/-- What a tunnel's source and path are: this device's own inputs have no path (R177). -/
def State.pathOf (c : State) (paths : List TunnelPath) (v : Nat) : Option TunnelPath :=
  let src := c.getN (0x2140 + v) 2
  if bits src 15 8 = c.ownAddr then
    some { v := Fin.ofNat 32 v, present := true, srcTenant := c.getN (0x2100 + bits src 7 0) 0x0A, hops := [] }
  else paths.find? (fun p => p.v.val == v && p.present)

/-- The checks of R179. A source that is absent refuses a tunnel that the Kickoff sets up; the tags are compared for every tunnel
that is active after it. -/
def State.checkTunnels (s c : State) (paths : List TunnelPath) : List Refuse :=
  let new := (List.range 32).filter (s.tunnelNew c)
  let own := ((List.range 32).filter (fun v => c.getN (0x2140 + v) 1 == 1)).flatMap (fun v =>
    match c.pathOf paths v with
    | none => failIf (s.tunnelNew c v) { check := 0x11, inst := v }
    | some p => failIf (p.srcTenant != 0 && p.srcTenant != c.getN (0x2140 + v) 0x10) { check := 0x12, inst := v })
  let fmts := (List.range 32).flatMap (fun v =>
    failIf (c.getN (0x2140 + v) 1 == 1 && c.getN (0x2140 + v) 3 != 2 && c.getN (0x2140 + v) 5 == 0)
      { check := 0x10, obj := (0x2140 + v) * 256 + 5 })
  let uses := new.flatMap (fun v => ((c.pathOf paths v).map (fun p => p.hops.map (fun h => (h, c.tunnelMbps v)))).getD [])
  let ports := uses.flatMap (fun u =>
    let mine := uses.filter (fun w => w.1.1 == u.1.1 && w.1.2.1 == u.1.2.1)
    let inst := u.1.2.1.val * 256 + u.1.1
    let slots := u.1.2.2.1 + mine.length
    let mbps := u.1.2.2.2.1 + (mine.map (·.2)).foldl (· + ·) 0
    failIf (decide (8 < slots)) { check := 0x0B, inst := inst, demand := slots, cap := 8 } ++
    failIf (decide (9500 * u.1.2.2.2.2 < mbps)) { check := 0x0C, inst := inst, demand := mbps, cap := 9500 * u.1.2.2.2.2 })
  own ++ fmts ++ ports

/-! ## Pools (R191, R240–R243, R302) -/

/-- What one apply point releases and newly needs of a pool. The key is its nominal time, or an identity where the epoch is
not known yet. -/
structure PoolEv where
  key : Nat
  rel : Nat
  need : Nat
  deriving DecidableEq, Repr

/-- The pools: check code and size. -/
def pools : List (Nat × Nat) := [(1, 96), (2, 192), (5, 32), (6, 64), (7, 48), (8, 64), (9, 256), (0x0A, 256)]

/-- The timing that decides an output's apply point: its active one, or its staged one where it is disabled before the commit (R193,
R194). -/
def State.deciding (s c : State) (n : Nat) : Timing :=
  let o := s.output n
  if s.outActive n && o.on then (if o.retime.isSome then s.timingOf n else o.tim) else c.timingOf n

/-- Whether two timings have the same frame starts: one period, and phases that differ by whole periods. -/
def sameGrid (t u : Timing) : Bool :=
  let p := framePeriod t.code
  p == framePeriod u.code && t.phase % Int.ofNat p == u.phase % Int.ofNat p

/-- The apply point of an output after epoch `e` (R193, R194). -/
def State.outPoint (s c : State) (n e : Nat) : Nat :=
  let t := s.deciding c n
  let a := if s.refs.anchored then s.anchor else if s.refs.awaitPulse then s.refs.lockAt else e
  gridAtOrAfter e a (framePeriod t.code) t.phase

/-- The key of a user of units: an output 0–47, or 48 for the audio matrix. Without an epoch, outputs whose frame starts coincide
share the key of the first of them. -/
def State.poolKey (s c : State) (e : Option Nat) (u : Nat) : Nat :=
  match e with
  | none => if u < 48 then ((List.range 48).find? (fun m => sameGrid (s.deciding c m) (s.deciding c u))).getD u else u
  | some e => if u < 48 then s.outPoint c u e else samplePeriodAt s.anchor s.matrixRate e

/-- Units held directly, as (unit, user, count): layer engines (R240), destinations, and slots with a converter (R302). -/
def State.unitsOf (c : State) (check : Nat) : List (Nat × Nat × Nat) :=
  if check = 1 ∨ check = 2 then
    (c.assigned.filter (fun l => l.gl == (check == 2))).map (fun l =>
      let m := c.leader (c.lOut l)
      (l.e, m, if c.getN (0x2200 + m) 3 = 1 then 4 else 1))
  else if check = 0x0A then
    ((List.range destCount).filter c.destOn).map (fun d => (d, if d < 384 then c.leader (d / 8) else 48, 1))
  else if check = 9 then
    (((List.range 256).map (· + 384)).filter (fun d => c.destOn d && c.getN (0x2700 + (d - 384) / 16) 0x11 == 1)).map (fun d => (512 + d, 48, 1))
  else []

/-- Shared units, as (entry, user): library references by pool (R242), converted sources (R302). -/
def State.sharedOf (c : State) (check : Nat) : List (Nat × Nat) :=
  let refs := if check = 5 then (c.assigned.filter (fun l => !l.gl)).map (fun l => (c.getN l.idx 9, c.leader (c.lOut l)))
    else if check = 6 then c.assigned.map (fun l => (c.getN l.idx (if l.gl then 0x0C else 0x0A), c.leader (c.lOut l)))
    else if check = 7 then ((List.range 48).filter (fun n => !c.gangMember n)).map (fun n => (c.getN (0x2200 + n) 8, n))
    else if check = 8 then (c.assigned.filter (fun l => l.gl && c.lFormat l == 5)).map (fun l => (c.getN l.idx 0x0A, c.leader (c.lOut l)))
    else []
  let srcs := if check = 9 then
      ((List.range destCount).filter (fun d => c.destOn d && srcAsrc (c.srcEntry (routeSrc (c.route d))))).map
        (fun d => (routeSrc (c.route d), if d < 384 then c.leader (d / 8) else 48))
    else []
  refs.filter (fun r => r.1 != 0xFF) ++ srcs

/-- The earliest or latest of a unit's users; without an epoch, a point of its own where there is more than one. -/
def edgeKey (key : Nat → Nat) (known last : Bool) (own : Nat) (us : List Nat) : Nat :=
  let ks := us.map key
  match ks with
  | [] => own
  | k :: rest => if known then rest.foldl (if last then max else min) k else if rest.all (fun x => x == k) then k else own

/-- The releases and needs of one pool. -/
def State.poolEvents (s c : State) (e : Option Nat) (loads : List Nat) (check : Nat) : List PoolEv :=
  let key := s.poolKey c e
  let direct := (s.unitsOf check).map (fun u => { key := key u.2.1, rel := u.2.2, need := 0 : PoolEv }) ++
    (c.unitsOf check).map (fun u => { key := key u.2.1, rel := 0, need := u.2.2 : PoolEv })
  let sb := s.sharedOf check; let sc := c.sharedOf check
  let names := ((sb ++ sc).map (·.1)).eraseDups
  let shared := names.flatMap (fun k =>
    let a := ((sb.filter (fun r => r.1 == k)).map (·.2)).eraseDups
    let b := ((sc.filter (fun r => r.1 == k)).map (·.2)).eraseDups
    let first := fun us => edgeKey key e.isSome false (1000 + 2 * k) us
    let final := fun us => edgeKey key e.isSome true (1001 + 2 * k) us
    if !a.isEmpty && !b.isEmpty then
      let us := (a ++ b).eraseDups
      if check != 9 && loads.contains k && decide (1 < us.length) then
        [{ key := first us, rel := 0, need := 1 }, { key := final us, rel := 1, need := 0 }]
      else []
    else if !a.isEmpty then [{ key := final a, rel := 1, need := 0 }]
    else [{ key := first b, rel := 0, need := 1 }])
  direct ++ shared

/-- Units of a pool that a configuration holds. -/
def State.poolHeld (s : State) (check : Nat) : Nat :=
  ((s.unitsOf check).map (fun u => u.2.2)).foldl (· + ·) 0 + ((s.sharedOf check).map (·.1)).eraseDups.length

/-- The count of R191: `free` after each apply point in order; with an unknown epoch, each point's own shortfall before any
other point's releases. The first negative count is the answer. -/
def poolWalk (known : Bool) (evs : List PoolEv) (free : Int) : Int :=
  let ks := (evs.map (·.key)).eraseDups.mergeSort
  let net := fun (k : Nat) =>
    let g := evs.filter (fun v => v.key == k)
    Int.ofNat ((g.map (·.rel)).foldl (· + ·) 0) - Int.ofNat ((g.map (·.need)).foldl (· + ·) 0)
  if known then ks.foldl (fun f k => if f < 0 then f else f + net k) free
  else free + (ks.map (fun k => min 0 (net k))).foldl (· + ·) 0

def State.checkPools (s c : State) (e : Option Nat) (loads : List Nat) : List Refuse :=
  pools.flatMap (fun p =>
    let f := poolWalk e.isSome (s.poolEvents c e loads p.1) (Int.ofNat p.2 - Int.ofNat (s.poolHeld p.1))
    failIf (decide (f < 0)) { check := p.1, demand := (Int.ofNat p.2 - f).toNat, cap := p.2 })

/-! ## This device's prepare (R190, R192) -/

/-- The lowest check code, then the lowest instance (R192). -/
def lowest : List Refuse → Option Refuse
  | [] => none
  | r :: t => match lowest t with
    | none => some r
    | some q => if r.check < q.check ∨ (r.check = q.check ∧ r.inst ≤ q.inst) then some r else some q

/-- Every check of the configuration `c` after the commit. -/
def State.checkAll (s c : State) (e : Option Nat) (loads : List Nat) (paths : List TunnelPath) : Option Refuse :=
  lowest (s.checkPools c e loads ++ c.checkLimits ++ s.checkTunnels c paths ++ c.checkInputs ++ c.checkLayers ++ c.checkOutputs ++
    c.checkAudio ++ c.checkLamps ++ c.checkMemory)

/-- Library entries whose LIB_DATA a list of entries carries. -/
def loadsOf (es : List Staged) : List Nat :=
  es.filterMap (fun e => if inRange e.idx 0x2600 224 && e.sub == 2 then some (e.idx - 0x2600) else none)

/-- DEVICE_PREPARE (R190): this device validates the carried entries, after R85 has removed those whose owner moves away.
The epoch of a KICKOFF orders its apply points (R191); a PREPARE leaves their order open (log entry 101). -/
def execDevicePrepare (paths : List TunnelPath) (at_ : Nat) (s : State) : Host.Outcome State Fault Refusal :=
  match s.kick with
  | none => .next s
  | some k =>
    if !s.power.open_ ∨ s.koState ≠ 1 ∨ k.own.isSome then .next s
    else if !k.selfIn then .next { s with kick := some { k with own := some none } }
    else
      let s := s.atTime at_
      let s := s.prune (s.overlay (s.carriedBy k.ten))
      let es := s.carriedBy k.ten
      let e := if k.fixed.isSome then k.fixed else k.epoch.map (fun v => max v (s.tbc + s.getN 0x1F00 6))
      let r := s.checkAll (s.overlay es) e (loadsOf es) paths
      .next { s with kick := some { k with own := some r } }

end Sys2Proof.Machine
end

