-- ==== Sys2Proof/Machine/Kickoff.lean ====
section
/-! DEFINITION. Kickoff and Whistle (chapter 6): scope, arming, the epoch and its delivery, apply points and what each part
does when it takes up its entries, resumption after a stop. -/
namespace Sys2Proof.Machine

/-! ## Scope and entry (R183, R189, R190) -/

/-- Workers that KO_SCOPE_MAP names. -/
def State.mapped (s : State) : List Nat := (List.range 255).filter (fun w => decide (1 ≤ w) && mapBit (s.getB 0x1F04 0) w)

/-- Workers present, in address order. -/
def State.present (s : State) : List Nat := (s.spans.members.map (·.addr)).mergeSort

/-- The workers that KO_SCOPE selects now. -/
def State.scopeNow (s : State) : List Nat :=
  let sc := s.getN 0x1F00 4
  if s.mgr then s.present.filter (fun w => bitAt sc 1 || (bitAt sc 2 && s.mapped.contains w)) else []

/-- A Kickoff begins (R183): the reports are cleared, the scope is fixed, and the PREPARE goes to every worker in it. -/
def State.koEnter (s : State) (t : Nat) (kicked : Bool) (epoch : Option Nat) (relayed : Bool) : State :=
  let s := (List.range 8).foldl (fun s i => s.setN 0x1F03 (i + 1) 0) (s.setN 0x1F00 3 0)
  let sc := s.getN 0x1F00 4
  let miss := if s.mgr ∧ bitAt sc 2 then s.mapped.filter (fun w => !s.present.contains w) else []
  let ws := s.scopeNow
  let s := s.setN 0x1F03 6 (if bitAt sc 3 then 0 else miss.length)
  let k : Kick := { ten := t, kten := t, kicked := kicked, epoch := epoch, relayed := relayed, selfIn := bitAt sc 0, scope := ws,
                    absent := if bitAt sc 3 then miss.head? else none }
  let s := ({ s with kick := some k }).setN 0x1F00 2 1
  s.makeRound ws 5 0 0 t []

/-- The epoch of an accepted KICKOFF is computed (R196, R197): when the request arrives, or at the enable instant (R488). -/
def State.koFix (s : State) : State :=
  match s.kick with
  | none => s
  | some k =>
    if k.fixed.isSome || !k.kicked || !s.power.enabled then s else
    let (e, late) := s.epochFor k.epoch k.relayed
    let s := ({ s with kick := some { k with fixed := some e } }).setN 0x1F00 1 e
    if late then s.koLate else s

/-! ## Apply points (R193, R194) -/

/-- The outputs that use library entry `k` in a configuration. -/
def State.libOuts (c : State) (k : Nat) : List Nat :=
  let ls := c.assigned.filter (fun l =>
    if l.gl then c.getN l.idx 0x0C == k || (c.lFormat l == 5 && c.getN l.idx 0x0A == k) else c.getN l.idx 9 == k || c.getN l.idx 0x0A == k)
  ((ls.map (fun l => c.leader (c.lOut l))) ++ (List.range 48).filter (fun n => !c.gangMember n && c.getN (0x2200 + n) 8 == k)).eraseDups

/-- The outputs that use library entry `k` before or after the commit. -/
def State.libAll (s c : State) (k : Nat) : List Nat := (s.libOuts k ++ c.libOuts k).eraseDups

/-- The part of the device to which an entry belongs (R193, R243); `c` is the configuration after the commit, `e` the epoch. An entry
of a layer that moves between outputs belongs to the one it moves to, a library entry to the first of its users. -/
def State.partOf (s c : State) (e : Nat) (x : Staged) : Part :=
  let i := x.idx
  if inRange i 0x2200 48 then .output (c.leader (i - 0x2200))
  else if inRange i 0x2500 48 then .output (c.leader (i - 0x2500))
  else if inRange i 0x2300 96 || inRange i 0x2400 192 then
    let o := if c.getN i 1 = 0xFF then s.getN i 1 else c.getN i 1
    if o = 0xFF then .device else .output (c.leader o)
  else if inRange i 0x2600 224 then
    match s.libAll c (i - 0x2600) with
    | [] => .device
    | n :: rest => .output (rest.foldl (fun a b => if s.outPoint c b e < s.outPoint c a e then b else a) n)
  else if inRange i 0x2760 6 then .output (c.leader (embedOf i x.sub))
  else if inRange i 0x2700 0x58 then .audio
  else if inRange i 0x2800 0x62 then .lamps
  else if inRange i 0x2100 32 then .input (i - 0x2100)
  else if inRange i 0x2140 32 && !decide (x.sub ≤ 6) then .input (i - 0x2140 + 32)
  else .device

/-- Every part that takes up something of an entry: beside its own, the output that a layer leaves (R240), and every user of a library
entry (R243). -/
def State.partsOf (s c : State) (e : Nat) (x : Staged) : List Part :=
  let i := x.idx
  s.partOf c e x :: (if (inRange i 0x2300 96 || inRange i 0x2400 192) && x.sub == 1 && s.getN i 1 != 0xFF then [.output (s.leader (s.getN i 1))]
    else if inRange i 0x2600 224 then (s.libAll c (i - 0x2600)).map .output else [])

/-- The nominal apply point of a part. An input with a signal takes up its entries at its first frame start at or after E,
whose time only its source decides. -/
def State.pointOf (s c : State) (e : Nat) : Part → Nat
  | .output n => s.outPoint c n e
  | .audio => samplePeriodAt s.anchor s.matrixRate e
  | _ => e

/-- The parts that entries reach, with their apply points in order; with no entry, the device itself at E (R189). -/
def State.planOf (s : State) (es : List Staged) (e : Nat) : List (Part × Nat) :=
  let c := s.overlay es
  let ps := (es.flatMap (s.partsOf c e)).eraseDups
  let plan := (ps.map (fun p => (p, s.pointOf c e p))).mergeSort (fun a b => decide (a.2 ≤ b.2))
  if plan.isEmpty then [(.device, e)] else plan

/-! ## Arming (R183, R196, R197, R200, R488) -/

/-- The first worker in scope that is absent when the epoch is to be delivered (R183). -/
def State.koMissing (s : State) (k : Kick) : Option Nat :=
  if k.sent then none else k.scope.find? (fun w => !s.present.contains w)

/-- The epoch goes out to every worker in scope, in the name of the tenant of the KICKOFF (R190), and the apply points follow from it;
an armed Kickoff that resumes has delivered it (R201). A worker that is absent now refuses the Kickoff (R183). -/
def State.koDeliver (s : State) : State :=
  let s := s.koFix
  match s.kick with
  | none => s
  | some k =>
    match s.koMissing k with
    | some w => s.koRefused 0 { check := 0x13, inst := w }
    | none =>
      let e := k.fixed.getD (s.getN 0x1F00 1)
      let ws := if k.sent then [] else k.scope
      let s := if k.lost then (s.setBit 0x1F03 7 1 true).event 13 else s
      let s := s.makeRound ws 6 0 0 k.kten (toBE 8 e)
      let plan := s.planOf (s.koEntries k) (max e s.tbc)
      { s with kick := some { k with plan := plan, armed := ws, waits := false, lost := false, sent := true } }

/-- ARMED: the epoch at once, or at the enable instant. -/
def State.koArm (s : State) : State :=
  match s.kick with
  | none => s
  | some k =>
    match s.koMissing k with
    | some w => s.koRefused 0 { check := 0x13, inst := w }
    | none =>
      let s := s.setN 0x1F00 2 3
      if s.power.enabled then s.koDeliver else { s with kick := some { k with waits := true } }

/-- Every device passed (R183). -/
def State.koPassed (s : State) : State :=
  match s.kick with
  | none => s
  | some k => if k.kicked then s.koArm else (s.setN 0x1F00 2 2).complete isPrepareJob { status := 0, payload := [] }

/-- A scope that selects no device passes at once (R189), while the data plane serves (R185). -/
def State.koEmpty (s : State) : State :=
  match s.kick with
  | some k => if s.power.open_ ∧ s.koState = 1 ∧ k.lost = false ∧ k.selfIn = false ∧ k.scope.isEmpty ∧ k.absent = none then s.koPassed else s
  | none => s

/-- PREPARE accepted in states 0, 5, 6 and 7. -/
def State.koPrepare (s : State) (t : Nat) (relayed : Bool) : State := (s.koEnter t false none relayed).koEmpty

/-- KICKOFF accepted: in state 2 it arms; in 0, 5, 6 and 7 it prepares first. After a data-plane stop a prepared Kickoff waits for the
next start, which abandons it (R201; log entry 76). -/
def State.koKickoff (s : State) (t : Nat) (epoch : Option Nat) (relayed : Bool) : State :=
  if s.koState = 2 then
    match s.kick with
    | some k =>
      let s := { s with kick := some { k with kten := t, kicked := true, epoch := epoch, relayed := relayed } }
      if k.lost then s else s.koFix.koArm
    | none => s
  else ((s.koEnter t true epoch relayed).koFix).koEmpty

/-- Whether R183 accepts a PREPARE, or a KICKOFF, in the present state: one KICKOFF arms a prepared Kickoff. -/
def State.koAccepts (s : State) (kick : Bool) : Bool :=
  [0, 5, 6, 7].contains s.koState || (kick && s.koState == 2 && s.kick.all (fun k => !k.kicked))

/-- PREPARE_RESULT (R183, R192): the answers of the workers in scope, with this device's own. It waits for every one that has not
left; those that have left refuse (R200). -/
def execPrepareResult (answers : List (Nat × Option Refuse)) (at_ : Nat) (s : State) : Host.Outcome State Fault Refusal :=
  match s.kick with
  | none => .next s
  | some k =>
    let here := k.scope.filter (fun w => !k.left.contains w)
    if !s.power.open_ ∨ s.koState ≠ 1 ∨ k.lost ∨ (k.selfIn ∧ k.own.isNone) ∨ !(here.all (fun w => answers.any (fun a => a.1 == w))) then .next s
    else
      let s := s.atTime at_
      let me := if s.mgr then 0 else s.ownAddr
      let absent := (k.absent.toList ++ k.left).map (fun w => ({ check := 0x13, inst := w } : Refuse))
      let own := lowest (((k.own.getD none).toList) ++ absent)
      let ws := here.filterMap (fun w => (answers.find? (fun a => a.1 == w)).bind (fun a => a.2.map (fun r => (w, r))))
      match own, ws with
      | some r, _ => .next (s.koRefused me r)
      | none, (w, r) :: _ => .next (s.koRefused w r)
      | none, [] => .next s.koPassed

/-! ## Taking up entries -/

/-- The entries of a list that touch subindices of an index. -/
def touched (es : List Staged) (idx : Nat) (subs : List Nat) : Bool := es.any (fun e => e.idx == idx && subs.contains e.sub)

/-- The objects of a layer that an output takes up, and those of a library entry. -/
def layerSubs (l : Layer) : List Nat := if l.gl then [1, 2, 3, 4, 5, 6, 7, 8, 9, 0x0A, 0x0B, 0x0C, 0x0D, 0x0E, 0x0F, 0x11]
  else [1, 2, 3, 4, 5, 6, 7, 8, 9, 0x0A, 0x0B, 0x0C, 0x0E]

/-- Output `m` goes on using the present values of some objects of an index. -/
def State.keepFor (s : State) (m idx : Nat) (subs : List Nat) : State :=
  let o := s.output m
  let new := subs.filter (fun k => !o.stays.any (fun e => e.1 == idx && e.2.1 == k))
  s.setOutput m { o with stays := o.stays ++ new.map (fun k => (idx, k, s.getV idx k)) }

/-- Outputs of later apply points still use library content, and layers that leave them, as before (R193, R243): `rest` are the parts
still to come after that of output `n`, with their points. -/
def State.keepOld (s : State) (es : List Staged) (n t : Nat) (rest : List (Part × Nat)) : State :=
  let later := fun (m : Nat) => m != n && rest.any (fun r => r.1 == .output m)
  let ks := ((es.filter (fun e => inRange e.idx 0x2600 224 && (e.sub == 1 || e.sub == 2))).map (fun e => e.idx - 0x2600)).eraseDups
  let s := ks.foldl (fun s k => ((s.libOuts k).filter later).foldl (fun s m => s.keepFor m (0x2600 + k) [1, 2]) s) s
  let gone := allLayers.filter (fun l => es.any (fun e => e.idx == l.idx && e.sub == 1) && s.lOut l != 0xFF && later (s.leader (s.lOut l)))
  gone.foldl (fun s l =>
    let m := s.leader (s.lOut l)
    let at_ := ((rest.find? (fun r => r.1 == .output m)).map (·.2)).getD t
    let s := if (s.output m).stays.any (fun e => e.1 == l.idx) then s else s.keepFor m l.idx (layerSubs l)
    if l.gl then s else s.leaveReader l.e m (max t at_)) s

/-- The layers that leave output `n` at `t` and reach another only later (R193): it shows them no more. `late` are the carried entries
still to apply. -/
def State.hideLeaving (s : State) (late : List Staged) (n t : Nat) : State :=
  let gone := allLayers.filter (fun l => s.lOut l != 0xFF && s.leader (s.lOut l) == n &&
    late.any (fun e => e.idx == l.idx && e.sub == 1 && e.val != .num (s.lOut l)))
  let s := s.setOutput n { s.output n with stays := gone.map (fun l => (l.idx, 1, .num 0xFF)) }
  gone.foldl (fun s l => if l.gl then s else s.leaveReader l.e n t) s

/-- Layers whose VL_OUTPUT or GL_OUTPUT has just been applied are no longer hidden anywhere. -/
def State.unhide (s : State) (es : List Staged) : State :=
  let is := (es.filter (fun e => e.sub == 1 && (inRange e.idx 0x2300 96 || inRange e.idx 0x2400 192))).map (·.idx)
  if is.isEmpty then s else
  (List.range 48).foldl (fun s m =>
    let o := s.output m
    let stays := o.stays.filter (fun e => !(is.contains e.1 && e.2.1 == 1 && e.2.2 == .num 0xFF))
    if stays.length = o.stays.length then s else s.setOutput m { o with stays := stays }) s

/-- An output and its gang take up their entries at `t`: `b` is the state before, `own` says that the Kickoff carries entries for it
(R287). Where this enables the first output, its apply point
less its phase is the grid anchor A (R135; log entry 125). -/
def State.takeOutput (s b : State) (n t : Nat) (own : Bool) : State :=
  let i := 0x2200 + n
  let gang := b.getN i 3 != s.getN i 3
  let changed := fun (k : Nat) => b.getN i k != s.getN i k
  let tim := s.timingOf n
  let s := if s.outActive n && !s.refs.anchored then s.anchorNow (t - (tim.phase % Int.ofNat (framePeriod tim.code)).toNat) else s
  let s := s.outputTake n t (changed 1) ([0x0B, 0x0C, 0x0D].any changed) own
  let s := if gang then [1, 2, 3].foldl (fun s j => s.outputTake (n + j) t true false own) s else s
  -- layers that have left an output, or hold no engine any more
  let moved := allLayers.filter (fun l => b.lOut l != s.lOut l)
  let s := moved.foldl (fun s l =>
    let s := if s.lOut l = 0xFF then (s.setN l.idx (if l.gl then 0x10 else 0x0D) 0) else s
    if l.gl || b.lOut l == 0xFF then s else s.leaveReader l.e (b.leader (b.lOut l)) t) s
  (s.layerStatus n).libUsers.audioUsed

/-- Lamp channels take up their entries (R193, R334). -/
def State.takeLamps (s : State) (es : List Staged) : State :=
  let s := (List.range 48).foldl (fun s c =>
    if es.any (fun e => e.idx == lampIdx c) then s.lampTake c (touched es (lampIdx c) [1, 2, 3, 4, 0x0A]) (touched es (lampIdx c) [0x0A]) else s) s
  s.lampEval false

/-- The audio matrix, ports and rings take up their entries (R292, R303, R317). -/
def State.takeAudio (s b : State) (es : List Staged) : State :=
  let s := (List.range 512).foldl (fun s k => if b.srcEntry k = s.srcEntry k then s else s.setSrc k {}) s
  let s := if b.getN 0x2740 1 = s.getN 0x2740 1 then s else s.matrixRestart
  let s := (List.range 16).foldl (fun s n =>
    if touched es (0x2700 + n) [1, 2, 3, 4, 5, 6, 0x0F, 0x10, 0x11] then s.sapApply n else s) s
  let s := (List.range 16).foldl (fun s r =>
    if es.any (fun e => e.idx == 0x2748 + r && e.sub ≤ 7) then s.ringApply r else s) s
  s.audioUsed

/-- An input takes up its entries (R208, R230): `b` is the state before. -/
def State.takeInput (s b : State) (n : Nat) : State :=
  let i := if n < 32 then 0x2100 + n else 0x2140 + (n - 32)
  let changed := fun (k : Nat) => b.getN i k != s.getN i k
  s.inputTake n (decide (n < 32) && changed 1) ((if n < 32 then [4, 5, 0x0D, 0x0E] else [0x0A, 0x0B]).any changed)

/-- Whether an input's apply point has come: at E without a signal, at its first frame start at or after E with one (R193). -/
def State.inputDue (s : State) (n e : Nat) : Bool :=
  let v := 0x2140 + (n - 32)
  let signal := if n < 32 then s.getBit (0x2100 + n) 2 0 else s.getBit v 7 0 && !s.getBit v 7 1 && !s.getBit v 7 3 && s.getN v 3 != 2
  !signal || decide (e ≤ (s.input n).startAt)

/-- A virtual input's tunnel is set up or released (R177, R178, R181): its reservation is the active one, and it begins without a
signal, with PATH_DOWN where there is no path; the ring is rebuilt. -/
def State.takeTunnel (s : State) (v : Nat) : State :=
  let i := 0x2140 + v
  let on := s.getN i 1 == 1
  let s := (s.setN i 9 (if on then s.tunnelMbps v else 0)).setN i 8 0
  let path := s.tunnelPath v
  let s := s.setN i 7 (if on then (if path.isNone then 8 else 1) else 0)
  let s := s.setInput (0x20 + v) { s.input (0x20 + v) with port := path.join, spoiled := false, psf := false, code := 0 }
  s.inputRebuild (0x20 + v)

/-- Device-level objects take effect at E. -/
def State.takeDevice (s b : State) (es : List Staged) : State :=
  let s := if touched es 0x2902 [0] then s.applyPower else s
  let s := if b.getN 0x1430 0 = s.getN 0x1430 0 then s else [1, 2, 3, 4].foldl State.emptyLog s
  let s := (List.range 20).foldl (fun s m =>
    if es.any (fun e => e.idx == 0x2910 + m && 1 ≤ e.sub && e.sub ≤ 0x18) then s.gateOverlap m else s) s
  (List.range 32).foldl (fun s v =>
    if es.any (fun e => e.idx == 0x2140 + v && e.sub ≤ 6) then s.takeTunnel v else s) s

/-- A part takes up entries at `t`, as one unit (R195): `late` are the carried entries still to apply, `rest` the parts still to come. -/
def State.takePart (s : State) (p : Part) (es late : List Staged) (rest : List (Part × Nat)) (t : Nat) : State :=
  let b := s
  let s := match p with
    | .output n => s.keepOld es n t rest
    | _ => s
  let s := (s.overlay es).unhide es
  let s := match p with
    | .output n => (s.hideLeaving late n t).takeOutput b n t (b.ownEntries (es ++ late) n || b.leftBy n)
    | .lamps => s.takeLamps es
    | .audio => s.takeAudio b es
    | .input n => s.takeInput b n
    | .device => s.takeDevice b es
    | .tunnel _ _ _ _ _ => s
  if s.mgr then s else s.dropLost

/-- A tunnel slot at a port of this device is set up or released (R177): the slots and the reservation that it sends, and what it
puts into them; or the slot that it receives. -/
def State.tunnelSlot (s : State) (p slot mbps : Nat) (use : SlotUse) (on : Bool) : State :=
  if 4 ≤ p ∨ 8 ≤ slot then s else
  let x := s.port p
  let y := { x with out := tabErase slot x.out, inn := tabErase slot x.inn, srcs := tabErase slot x.srcs, carry := tabErase slot x.carry }
  if !on then s.setPort p (match use with
    | .arrive _ => { x with inn := tabErase slot x.inn }
    | _ => { y with inn := x.inn })
  else match use with
    | .arrive v => s.setPort p { x with inn := tabPut x.inn slot (v.map (·.val)) }
    | .forward => s.setPort p { y with out := tabInsert slot mbps y.out, inn := x.inn }
    | .send n kind sampling reserve ch =>
      let src : TunnelSrc := { inp := n, kind := kind, sampling := sampling, reserve := reserve.toNat, ch := ch }
      let first := if s.sourceOn n then TunnelItem.lock else .loss
      s.setPort p { y with out := tabInsert slot mbps y.out, inn := x.inn, srcs := tabInsert slot src y.srcs, carry := tabInsert slot first y.carry }

/-! ## Apply points as events -/

/-- The part of the device to which a Whistle's entry belongs: a layer that no output shows any more belongs to none (R204). -/
def State.whPart (s : State) (x : Staged) : Part :=
  if inRange x.idx 0x2800 48 then .lamps else if s.getN x.idx 1 = 0xFF then .device else .output (s.leader (s.getN x.idx 1))

/-- Apply points of the Whistle's entries after epoch `e`. -/
def State.whPlan (s : State) (es : List Staged) (e : Nat) : List (Part × Nat) :=
  let ps := (es.map s.whPart).eraseDups
  let plan := (ps.map (fun p => (p, s.pointOf s e p))).mergeSort (fun a b => decide (a.2 ≤ b.2))
  if plan.isEmpty then [(.device, e)] else plan

/-- After a Kickoff's apply point of part `p` the Whistle's entries follow the outputs as they are now (R204). -/
def State.whReplan (s : State) (p : Part) : State :=
  match s.whis with
  | none => s
  | some w =>
    if w.waits || w.entries.isEmpty then s else
    let new := s.whPlan w.entries (max (s.getN 0x1F08 1) s.tbc)
    { s with whis := some { w with plan := new.map (fun q => if q.1 == p then q else (w.plan.find? (fun r => r.1 == q.1)).getD q) } }

/-- The Whistle's apply point of a part, if the plan holds it. -/
def State.whApply (s : State) (p : Part) : State :=
  match s.whis with
  | none => s
  | some w =>
    match w.plan.find? (fun q => q.1 == p) with
    | none => s
    | some q =>
      if w.waits then s else
      let s := s.atTime q.2
      let mine := fun (e : Staged) => s.whPart e == p
      let rest := w.plan.filter (fun r => !(r.1 == p))
      let es := if rest.isEmpty then w.entries else w.entries.filter mine
      let left := if rest.isEmpty then [] else w.entries.filter (fun e => !mine e)
      let s := { s with whis := some { w with plan := rest, entries := left } }
      let s := s.setN 0x1F08 2 2
      let s := s.overlay es
      let s := match p with
        | .lamps => s.takeLamps es
        | .output n => s.layerStatus n
        | _ => s
      s.whFinish

/-- The Whistle's parts whose apply points come no later than `t` and that meet a Kickoff's part or its entries on one object apply
first (R205). -/
def State.whFirst (s : State) (part : Part) (es : List Staged) (t : Nat) : State :=
  match s.whis with
  | none => s
  | some w =>
    let due := w.plan.filter (fun r => decide (r.2 ≤ t) &&
      (r.1 == part || w.entries.any (fun x => s.whPart x == r.1 && es.any (fun y => y.idx == x.idx))))
    due.foldl (fun s r => s.whApply r.1) s

/-- KICKOFF_APPLY_POINT (R193, R195, R205): a part's apply point is reached. The last one takes every entry that is left. -/
def execKickoffApplyPoint (part : Part) (s : State) : Host.Outcome State Fault Refusal :=
  match part with
  | .tunnel p slot mbps use on => if s.power.run then .next (s.tunnelSlot p slot mbps use on) else .next s
  | _ =>
    match s.kick with
    | none => .next s
    | some k =>
      match k.plan.find? (fun q => q.1 == part) with
      | none => .next s
      | some q =>
        let e := s.getN 0x1F00 1
        let due := match part with
          | .input n => s.inputDue n e
          | _ => true
        if !s.power.enabled ∨ k.waits ∨ !due then .next s else
        let s := s.atTime q.2
        let all := s.koEntries k
        let c := s.overlay all
        let rest := k.plan.filter (fun r => !(r.1 == part))
        let es := if rest.isEmpty then all else all.filter (fun x => s.partOf c e x == part)
        let s := s.whFirst part es (max q.2 s.tbc)
        let s := { s with staging := s.staging.filter (fun x => !es.contains x), kick := some { k with plan := rest } }
        let s := s.setN 0x1F00 2 4
        let late := all.filter (fun x => !es.contains x)
        .next ((s.takePart part es late rest (max q.2 s.tbc)).whReplan part).koFinish

/-! ## Whistle (R202–R205) -/

/-- The Whistle class (R203, R268): lamp channels, and position, alpha and visibility of assigned layers. -/
def State.whClass (s : State) (e : Staged) : Bool :=
  if inRange e.idx 0x2800 48 then [1, 2, 3, 4, 0x0A].contains e.sub
  else if inRange e.idx 0x2300 96 then [4, 7, 8].contains e.sub && s.getN e.idx 1 != 0xFF
  else if inRange e.idx 0x2400 192 then [6, 8, 9].contains e.sub && s.getN e.idx 1 != 0xFF
  else false

/-- The Whistle's epoch is computed and delivered; one that resumes keeps its epoch (R202). -/
def State.whDeliver (s : State) (w : Whis) : State :=
  let (e, late) := if w.sent then (s.getN 0x1F08 1, false) else s.epochFor w.epoch w.relayed
  let s := s.setN 0x1F08 1 e
  let ws := if w.sent then [] else s.scopeNow
  let s := s.makeRound ws 7 0 0 w.ten (toBE 8 e)
  let s := { s with whis := some { w with plan := s.whPlan w.entries (max e s.tbc), armed := ws, waits := false, lost := false, sent := true } }
  if late then s.koLate else s

/-- WHISTLE accepted: armed at its epoch, or waiting for the enable instant. Its entries come at settle. -/
def State.whEnter (s : State) (t : Nat) (epoch : Option Nat) (relayed : Bool) : State :=
  let w : Whis := { ten := t, epoch := epoch, relayed := relayed, waits := true }
  let s := ({ s with whis := some w }).setN 0x1F08 2 1
  if s.power.enabled then s.whDeliver w else s

/-- The settle edge of a WHISTLE (R203): its entries leave the staging store. -/
def State.whTake (s : State) (t : Nat) : State :=
  match s.whis with
  | none => s
  | some w =>
    let es := if bitAt (s.getN 0x1F00 4) 0 then (s.carriedBy t).filter s.whClass else []
    let s := { s with staging := s.staging.filter (fun x => !es.contains x) }
    let plan := if w.waits then w.plan else s.whPlan es (max (s.getN 0x1F08 1) s.tbc)
    { s with whis := some { w with entries := es, plan := plan } }

/-- Whether R204 accepts a WHISTLE. -/
def State.whAccepts (s : State) : Bool := [0, 5, 6, 7].contains s.koState && (s.whState == 0 || s.whState == 3)

/-- WHISTLE_APPLY_POINT (R204): a part of the Whistle applies. -/
def execWhistleApplyPoint (part : Part) (s : State) : Host.Outcome State Fault Refusal :=
  if s.power.enabled then .next (s.whApply part) else .next s

/-! ## Stops and starts (R201, R202, R488) -/

/-- What a data-plane stop does to a Kickoff and a Whistle: the reservations are lost, or what is armed waits for the next start. The
workers that leave with the stop are counted as they leave (R200). -/
def State.koStop (s : State) : State :=
  let s := match s.kick with
    | none => s
    | some k =>
      if [1, 2].contains s.koState then { s with kick := some { k with lost := true } }
      else { s with kick := some { k with waits := true, lost := true, plan := [] } }
  match s.whis with
  | none => s
  | some w => { s with whis := some { w with waits := true, lost := true, plan := [] } }

/-- The data-plane start that follows (R201): a Kickoff that was preparing or prepared is abandoned. -/
def State.koStart (s : State) : State :=
  match s.kick with
  | some k => if k.lost && [1, 2].contains s.koState then s.koAbandoned else s
  | none => s

/-- The enable instant (R201, R202, R488): epochs that waited are computed, and what was armed resumes. -/
def State.koEnable (s : State) : State :=
  let s := match s.whis with
    | none => s
    | some w =>
      if w.waits then
        let s := if w.lost then (s.setBit 0x1F03 7 2 true).event 13 else s
        s.whDeliver w
      else s
  match s.kick with
  | none => s
  | some k => if k.waits then s.koDeliver else s.koFix

end Sys2Proof.Machine
end

