-- ==== Sys2Proof/Machine/Power.lean ====
section
/-! DEFINITION. Power, reset, start-up and standby (chapter 17), with the thermal watchdog (R472), the enable instant (R486,
R487), a worker's join (R158, R162) and the events that end start-up steps 7–9. -/
namespace Sys2Proof.Machine

def State.pwState (s : State) : Nat := s.getN 0x1500 1
def State.setPw (s : State) (st step : Nat) : State := (s.setN 0x1500 1 st).setN 0x1500 2 step
/-- T_max − 5 °C in 0.1 °C (R472, R479). -/
def State.coolLimit (s : State) : Int := Int.ofNat s.straps.grade - 50

/-! ## The data plane stops (R482, R490) -/

/-- What stops with CCLK: Kickoffs wait or lose their reservations (R201), the span ports go down (R163), nothing is shown,
heard or lit, DRAM enters self-refresh (R414), saves are interrupted (R22). -/
def State.dpStop (s : State) (standby : Bool) : State :=
  if !s.power.run then s else
  let s := (s.koStop.testStop).spansStop
  let s := { s with outputs := [], readers := [], inputs := [], audio := {}, xb := {} }
  let s := s.lampsStop
  let s := s.saveCut
  let s := { s with dram := { s.dram with selfRefresh := true },
                    bank := { s.bank with fusing := none } }
  let s := s.setN 0x1510 1 0
  let s := if standby then s
    else { s with cue := {}, queue := s.queue.filter (fun e => e.cue.isNone) }
  { s with power := { s.power with run := false, open_ := false, enabled := false, dramOk := false, neighbourOk := false, firstLock := false } }

/-- A data-plane reset with its cause (R482): every group stays powered, and the start begins again at step 2. -/
def State.dpReset (s : State) (cause kind : Nat) : State :=
  let s := ((s.dpStop false).setN 0x1500 6 cause).setPw 1 2
  { s with power := { s.power with kind := kind } }

/-- Power up from step 1: PWR_EN0 goes high. -/
def State.powerUp (s : State) : State :=
  { (s.setN 0x1500 9 0) with power := { s.power with enables := 1, railWait := false, dieHold := false } }

/-! ## Power-on and rails (R477–R483) -/

/-- POWER_ON_RESET (R481): every state of the device is cleared while it is held; the MTP store and the fuses keep theirs. -/
def execPowerOnReset (s : State) : Host.Outcome State Fault Refusal :=
  let fuses : Banks := { factory := s.bank.factory, customer := s.bank.customer }
  let cut := s.saveCut
  .next { State.resetWith s.straps with
          power := { held := true, enables := 0 }, bank := fuses, mtp := { sectors := cut.mtp.sectors },
          seed := s.seed, pending := s.pending }

/-- POR_RELEASE (R480, R481): the straps are sampled, the control plane holds its defaults, PWR_EN0 goes high. -/
def execPorRelease (straps : Straps) (s : State) : Host.Outcome State Fault Refusal :=
  if !s.power.held then .next s else
  .next { State.resetWith straps with bank := s.bank, mtp := s.mtp, seed := s.seed, pending := s.pending }

/-- Whether the start controller is raising groups. -/
def State.powering (s : State) : Bool :=
  !s.power.held && !s.power.run && !s.power.railWait && (s.pwState == 1 || s.pwState == 5)

/-- The highest group whose enable is high. -/
def State.topGroup (s : State) : Nat := Nat.log2 s.power.enables

/-- RAIL_GROUP_GOOD (R477, R479): the group enabled last is good; the next is raised, after group 0 only while the die is
cool enough. -/
def execRailGroupGood (g : Fin 4) (die : Int) (s : State) : Host.Outcome State Fault Refusal :=
  if !s.powering ∨ s.power.enables = 0 ∨ s.topGroup ≠ g.val ∨ s.getBit 0x1500 9 g then .next s else
  let s := s.setBit 0x1500 9 g true
  let s := if g.val = 0 then { s with power := { s.power with die := die } } else s
  if g.val = 0 ∧ s.coolLimit < die then
    .next { (s.setN 0x1500 1 6) with power := { s.power with dieHold := true } }
  else if g.val = 3 then .next (s.setN 0x1500 2 2)
  else .next { s with power := { s.power with enables := s.power.enables ||| (1 <<< (g.val + 1)) } }

/-- START_DIE_HOLD_RELEASE (R479): the die has cooled to T_max − 5 °C. -/
def execStartDieHoldRelease (die : Int) (s : State) : Host.Outcome State Fault Refusal :=
  if !s.power.dieHold ∨ s.coolLimit < die then .next s else
  .next { (s.setN 0x1500 1 (if s.power.kind = 3 then 5 else 1)) with
          power := { s.power with dieHold := false, die := die, enables := 3 } }

/-- The four data-plane logs are emptied (R464). -/
def State.emptyLogs (s : State) : State := [1, 2, 3, 4].foldl State.emptyLog s

/-- Banks and DRAM without their rails: every bank is as at power-on, its substitutions and failed marks stand (R363). -/
def State.railsGone (s : State) : State :=
  let down := s.bank.phys.map (fun p => (p.1, { p.2 with st := 0, moveTo := none }))
  let s := { s with mem := [], bank := { s.bank with phys := down, ue := [], ce := [] }, dram := { s.dram with chans := [] } }
  s.emptyLogs

/-- RAIL_FAULT (R477, R482, R483): a rail of an enabled group sags, or is not good in time. Every PWR_EN is lowered. -/
def execRailFault (g : Fin 4) (at_ : Nat) (s : State) : Host.Outcome State Fault Refusal :=
  if s.power.held ∨ !bitAt s.power.enables g then .next s else
  let s := if s.power.run then s.atTime at_ else s
  let s := (s.dpReset 5 2).railsGone.setPw 1 1
  let recent := s.power.railAt.filter (fun t => decide (s.tbc < t + 60 * Config.ticksPerSec))
  let s := { (s.setN 0x1500 9 0) with
             power := { s.power with enables := 0, cold := true, railWait := true, dieHold := false, tripped := false, xoLost := false, railAt := recent } }
  .next (if 3 ≤ recent.length then s.setN 0x1500 1 7 else s)

/-- RAIL_FAULT_RESTART (R482, R483): 1 s later step 1 runs for all groups, unless the device stays failed. -/
def execRailFaultRestart (s : State) : Host.Outcome State Fault Refusal :=
  if !s.power.railWait ∨ s.pwState = 7 then .next s else
  let s := { s with power := { s.power with railAt := s.power.railAt ++ [s.tbc] } }
  .next (s.powerUp.setPw 1 1)

/-- XO_LOSS (R482): no XO edge for 10 µs while the data plane runs. -/
def execXoLoss (at_ : Nat) (s : State) : Host.Outcome State Fault Refusal :=
  if !s.power.run then .next s else
  let s := (s.atTime at_).dpReset 4 2
  .next { s with power := { s.power with xoLost := true } }

/-- XO_RESTART (R482): the XO has run for 10 ms. -/
def execXoRestart (s : State) : Host.Outcome State Fault Refusal :=
  .next { s with power := { s.power with xoLost := false } }

/-! ## The die sensor (R472) -/

def State.dtState (s : State) : Nat := s.getN 0x1441 1
/-- The sensor is supplied from group 0 (R479). -/
def State.dieSeen (s : State) : Bool := !s.power.held && s.getBit 0x1500 9 0

/-- THERMAL_WARNING: from 0 to 1 when the die reaches T_max. -/
def execThermalWarning (die : Int) (at_ : Nat) (s : State) : Host.Outcome State Fault Refusal :=
  if !s.dieSeen ∨ s.dtState ≠ 0 ∨ die < Int.ofNat s.straps.grade then .next s else
  let s := if s.power.run then s.atTime at_ else s
  let s := { s with power := { s.power with die := die } }
  .next ((s.setN 0x1441 1 1).event 29)

/-- THERMAL_TRIP: to 2 when the die reaches 125 °C; the data plane stops as a data-plane reset. -/
def execThermalTrip (die : Int) (at_ : Nat) (s : State) : Host.Outcome State Fault Refusal :=
  if !s.dieSeen ∨ s.dtState = 2 ∨ die < 1250 then .next s else
  let s := if s.power.run then s.atTime at_ else s
  let s := ((s.setN 0x1441 1 2).count 0x1441 2).event 29
  let s := if s.power.run then s.dpReset 3 4 else (s.setN 0x1500 6 3)
  .next { s with power := { s.power with die := die, tripped := true, kind := 4 } }

/-- THERMAL_RESTART: the die is at or below 100 °C, and the start may run. -/
def execThermalRestart (die : Int) (s : State) : Host.Outcome State Fault Refusal :=
  if !s.power.tripped ∨ 1000 < die then .next s else
  let s := { s with power := { s.power with die := die, tripped := false } }
  .next (s.setN 0x1441 1 (if s.coolLimit < die then 1 else 0))

/-- THERMAL_WARNING_CLEAR: from 1 to 0 at T_max − 5 °C. -/
def execThermalWarningClear (die : Int) (at_ : Nat) (s : State) : Host.Outcome State Fault Refusal :=
  if !s.dieSeen ∨ s.dtState ≠ 1 ∨ s.coolLimit < die then .next s else
  let s := if s.power.run then s.atTime at_ else s
  .next (({ s with power := { s.power with die := die } }).setN 0x1441 1 0)

/-! ## The standby snapshot (R491, R494) -/

/-- The snapshot: every data-plane object off its default but RO ones and CW_DATA, and every staged DOMAIN buffer. -/
def State.snapshot (s : State) : List Byte :=
  let l := s.listed (fun o => dataPlane o.idx && o.d.acc != .ro && o.idx != 0x2B09)
  let ds := s.staging.filter (fun (e : Staged) => match findObj s.mgr e.idx e.sub with
    | some o => o.d.ty.isDom
    | none => false)
  imageBytes 1 (l.length + ds.length)
    (l.flatMap (fun ov => recordBytes ov.1.idx ov.1.sub 0 (leVal ov.1.d.ty ov.2)) ++ ds.flatMap (fun e => recordBytes e.idx e.sub 1 e.val.data))

/-- Staged DOMAIN buffers after a standby exit: refreshed from the records that hold them, else from the active content. -/
def State.refreshStaged (s : State) (rs : List (Nat × Nat × Nat × List Byte)) : State :=
  let fresh := fun (e : Staged) =>
    match findObj s.mgr e.idx e.sub with
    | some o =>
      if o.d.ty.isDom then
        match rs.find? (fun r => r.1 == e.idx && r.2.1 == e.sub && r.2.2.1 % 2 == 1) with
        | some r => { e with val := .bytes r.2.2.2 }
        | none => { e with val := .bytes (s.getB e.idx e.sub) }
      else e
    | none => e
  { s with staging := s.staging.map fresh }

/-- Install the snapshot's object records, P or not. -/
def State.installSnapshot (s : State) (rs : List (Nat × Nat × Nat × List Byte)) : State :=
  (rs.filter (fun r => r.2.2.1 % 2 == 0)).foldl (fun s r =>
    match findObj s.mgr r.1 r.2.1 with
    | some o =>
      if !dataPlane r.1 then s
      else match o.d.ty with
        | .str | .dom _ => s.setB r.1 r.2.1 r.2.2.2
        | _ => s.setN r.1 r.2.1 (ofLE r.2.2.2)
    | none => s) s

/-- The snapshot restore of R494, or the MTP image in its place. -/
def State.restoreSnapshot (s : State) : State :=
  let a := s.getN 0x1501 1
  let b := leAt (memRead s.mem a 12) 8 4
  let bad := s.bank.ue.any (fun w => decide (a / 32 ≤ w) && decide (w * 32 < a + b))
  match (if bad ∨ s.getN 0x1501 2 < b then none else imageRecords 1 (memRead s.mem a b)) with
  | some rs => ((s.installSnapshot rs).refreshStaged rs).setN 0x1501 4 1
  | none => ((s.restore false).refreshStaged []).setN 0x1501 4 2

/-! ## The start (steps 2–6) -/

/-- PW_STEP while steps 7–10 run. A worker's start ends with steps 7 and 8 (R486). -/
def State.startShow (s : State) : State :=
  if !s.power.run ∨ !s.power.open_ ∨ s.pwState = 2 then s
  else if !s.power.dramOk then s.setN 0x1500 2 7
  else if !s.power.neighbourOk then s.setN 0x1500 2 8
  else if !s.mgr then s.setPw 2 0
  else if s.getN 0x2B00 1 = 0 then s.setN 0x1500 2 9
  else s.setN 0x1500 2 10

/-- Step 2 (R463): CCLK runs; TBC resumes. -/
def State.startClock (s : State) : State :=
  let k := s.power.kind
  let s := { s with power := { s.power with run := true, startTbc := s.tbc, firstFrame := false, firstLock := false } }
  let s := (((s.event 1).setN 0x1403 1 k).setN 0x1403 2 s.tbc).setN 0x1403 3 s.sck
  s.setN 0x1403 4 (satAdd maxU32 (s.getN 0x1403 4) 1)

/-- Step 3 (R485): both copies bad leave serial 0 and status 0. -/
def State.startFuses (s : State) (f : StartInfo) : State :=
  if !f.copyA && !f.copyB then (s.setN 0x1000 4 0).setN 0x1000 5 0
  else (s.setN 0x1000 4 f.serial.toNat).setN 0x1000 5 (1 + 2 * b2n (!(f.copyA && f.copyB)))

/-- Steps 3–5 of the memory: repair records, the restore, the cold march. The march's log entries are written once the
restore has run (log entry 30). -/
def State.startMemory (s : State) (f : StartInfo) : State :=
  let s := { s with objs := s.objs.filter (fun p => !isDataObj p.1) }
  let s := { s with dram := { s.dram with rate := 3, ecc := false, patrolS := 86400 } }
  let s := s.loadRepairs
  let s := if s.power.kind = 3 then s.restoreSnapshot
    else (s.setN 0x1F10 0 0).restore s.power.fresh
  let s := if s.power.fresh then s.storeShow else s
  let s := { s with dram := { s.dram with rate := s.getN 0x2A30 1, ecc := s.getN 0x2A30 2 == 1, patrolS := s.getN 0x2A30 3 } }
  let fs := f.fails.map (fun x => (x.1.val, x.2))
  let s := if s.power.cold then s.coldMarch false fs else if s.power.kind = 3 then s.coldMarch true fs else s
  -- a data-plane log outside the image's banks is gone after standby (R465)
  let la := s.getN 0x1430 0
  let away := decide (la < sramBase) || decide (sramBase + 0x400000 < la + 0x4000)
  let s := if s.power.kind == 3 && away then s.emptyLogs else s
  let s := s.applyPower.bankCounts.mtShow
  { s with
    power := { s.power with cold := false, fresh := false }
    bank := { s.bank with testDue := 0, scrubAt := none, scrubbed := 0, scrubNext := 0 } }

/-- The blocks take up the restored configuration; the selector starts. -/
def State.startBlocks (s : State) : State :=
  let s := (List.range 20).foldl State.gateOverlap s
  let s := (s.inputsStart.refsStart).spansStart
  -- tunnels that a snapshot has brought back wait for their paths
  let s := ((List.range 32).filter (fun v => s.getN (0x2140 + v) 1 == 1)).foldl State.takeTunnel s
  let s := (List.range 16).foldl State.sapApply s
  let s := (List.range 16).foldl State.ringApply s
  let s := (List.range 12).foldl (fun s k => s.laneStatus (4 * k)) s
  let s := ((List.range 48).filter s.gangMember).foldl State.outputStop s
  let s := (List.range 48).foldl State.layerStatus s
  s.libUsers.audioUsed

/-- DATA_PLANE_START (R485 and the start-up sequence): steps 2–6. -/
def execDataPlaneStart (f : StartInfo) (s : State) : Host.Outcome State Fault Refusal :=
  if !s.powering ∨ s.power.enables ≠ 15 ∨ s.getN 0x1500 9 ≠ 15 ∨ s.power.tripped ∨ s.power.xoLost then .next s else
  let s := (s.startClock).startFuses f
  if !f.copyA && !f.copyB then
    .next { (s.setPw 7 3) with power := { s.power with run := false } }
  else
    let s := (s.startMemory f).startBlocks
    let s := { s with power := { s.power with open_ := true } }
    .next s.koStart.koEmpty.rollReissue.savePump.startShow

/-! ## Enabling (R487) -/

/-- Outputs, lamp channels and audio destinations start at this instant. -/
def State.enableAll (s : State) : State :=
  let on := (List.range 48).filter s.outActive
  let s := if on.isEmpty then s else s.anchorNow s.tbc
  let s := { s with power := { s.power with enabled := true } }
  let s := on.foldl (fun s n => s.outputStart n s.tbc) s
  (s.lampsEnable.matrixRestart).koEnable

/-- A worker whose start ends when it has already joined enables at that moment (R162, R352). -/
def State.joinEnable (s : State) : State :=
  if !s.mgr && s.pwState == 2 && s.memberState == 3 && !s.power.enabled then s.enableAll else s

/-! ## Steps 7–9 -/

/-- DRAM_TRAINING_DONE (R409): step 7 ends; after a standby exit the contexts resume (R423). -/
def execDramTrainingDone (codes : List (Fin 6)) (densities : List Nat) (s : State) : Host.Outcome State Fault Refusal :=
  if !s.power.run ∨ s.power.dramOk then .next s else
  let s := s.dramTrained codes densities
  .next (if s.power.kind = 3 then s.setN 0x2B00 1 5 else s).startShow.joinEnable

/-- NEIGHBOUR_TEST (R351, R352): step 8 of a start, or the test that LW_NEIGHBOUR_TEST asked for. -/
def execNeighbourTest (fails : List (Fin 48 × Fin 3)) (at_ : Nat) (s : State) : Host.Outcome State Fault Refusal :=
  let asked := s.nextPlain.any (fun e => e.job == .neighbourTest)
  if !s.power.open_ ∨ (s.power.neighbourOk ∧ !asked) then .next s else
  let s := (s.atTime at_).neighbourResult fails
  if s.power.neighbourOk then .next (s.complete (fun e => e.job == .neighbourTest) { status := 0, payload := [] })
  else .next ({ s with power := { s.power with neighbourOk := true } }).startShow.joinEnable

/-- CUE_BOOT: after DRAM training of a start that is no standby exit, context 0 runs the factory boot program (R421, R422). -/
def execCueBoot (s : State) : Host.Outcome State Fault Refusal :=
  if s.power.run ∧ s.power.dramOk ∧ s.power.kind ≠ 3 ∧ s.getN 0x2B00 1 = 0 then .next s.bootRun.startShow else .next s

/-! ## The enable instant (R486–R488) -/

/-- Whether, and from which TBC value, R486 lets step 10 end. -/
def State.enableFrom (s : State) : Option Nat :=
  let w := s.getN 0x1500 8
  let cands := (List.range 8).any (fun k => s.inUse (candIdx k) 1 != 0)
  if w = 0 ∨ !cands then some s.tbc
  else if s.power.firstLock ∧ s.refs.anchored then
    some (if s.refs.pulsed then s.anchor + 1 else s.anchor)
  else if s.power.startTbc + w * Config.ticksPerSec ≤ s.tbc then some s.tbc
  else none

/-- ENABLE_INSTANT (R486): a manager's step 10 ends. Where only PW_REF_WAIT_S can end it, time moves to its end. -/
def execEnableInstant (at_ : Nat) (s : State) : Host.Outcome State Fault Refusal :=
  if !s.mgr ∨ !s.power.open_ ∨ !s.power.dramOk ∨ !s.power.neighbourOk ∨ s.power.enabled then .next s else
  let s := s.atTime at_
  let t := (s.enableFrom).getD (s.power.startTbc + s.getN 0x1500 8 * Config.ticksPerSec)
  .next ((s.atTime t).setPw 2 0).enableAll

/-- JOIN_GRANT (R158, R161, R162): passed on along its path, or this worker's own join: TBC loaded if it moves by more than
10 µs, A taken, member state 3. The 40-bit stamps of the exchanges show the difference of the clocks modulo 2^35 ticks, `clock` the
turns beside that (log entry 123). -/
def execJoinGrant (p : Fin 4) (serial : BitVec 64) (addr hops : BitVec 8) (path : BitVec 16) (clock : GrantClock) (bus : BitVec 8)
    (at_ : Nat) (s : State) : Host.Outcome State Fault Refusal :=
  if !s.power.run ∨ (s.port p).lanes = 0 then .next s else
  let s := s.atTime at_
  if s.upPort ≠ some p.val then .next (s.spanViol 0x28 p 1 3)
  else if serial.toNat ≠ s.serial then
    -- an ancestor records the address against its port and forwards
    let q := (path.toNat >>> (14 - 2 * min 7 s.ownDepth)) % 4
    let m : Member := { addr := addr.toNat, serial := serial.toNat, depth := hops.toNat, path := path.toNat, port := q }
    let s := { s with spans := { s.spans with members := s.spans.members.filter (fun (x : Member) => x.addr != addr.toNat && x.serial != serial.toNat) ++ [m] } }
    .next (s.showPorts.tunnelsUp.chanSend q 1 ([0x03#8] ++ toBE 8 serial.toNat ++ [addr, hops] ++ toBE 2 path.toNat ++ toBE 8 clock.a.toNat ++ [bus]))
  else if s.memberState ≠ 2 then .next (s.spanViol 0x28 p 1 3)
  else
    let off := roundDivI (meanOffset (s.port p).offs) 32 + clock.turns * 2 ^ 35
    let big := decide (270 < off.natAbs)
    let s := if big then { s with tbc := ((Int.ofNat s.tbc - off) % (2 ^ 64 : Int)).toNat } else s
    let s := if big then (s.setPort p { s.port p with offs := [] }).setCand 4 { s.cand 4 with lag := none } else s
    let s := { (s.setN 0x2000 2 clock.a.toNat) with refs := { s.refs with anchored := true, awaitPulse := false } }
    let s := if big then s.regrid.event 8 else s
    let s := ((s.setN 0x1200 2 addr.toNat).setN 0x1200 6 addr.toNat).setN 0x1200 3 hops.toNat
    let s := (s.setN 0x1200 5 3)
    let auto_ : Sub := { ten := 0, idx := 0x1400, sub := 0 }
    let s := { s with spans := { s.spans with bus := bus.toNat, hops := hops.toNat, path := path.toNat, joining := none,
                                              subs := if s.spans.subs.any (fun u => u.idx == 0x1400 && u.ten == 0) then s.spans.subs else s.spans.subs ++ [auto_] } }
    let s := s.joinEnable
    .next s.sendHellos.showPorts.tunnelsUp

/-! ## Resets and standby by command -/

/-- PW_DP_RESET at its settle edge (R484). From PW_STATE 7 the device powers every group that is down. -/
def State.hostReset (s : State) : State :=
  let s := s.dpReset 2 2
  let s := { s with power := { s.power with railAt := [] } }
  if s.power.enables = 15 then s else (s.powerUp).setPw 1 1

/-- The bridge entry of a standby request. -/
def isStandbyJob (e : BEntry) : Bool := e.job == .standby

/-- Memory in standby: banks 0–31 of G0 in RET, every other bank OFF, DRAM lost (R362, R490). -/
def State.standbyBanks (s : State) : State :=
  let s := (List.range 528).foldl (fun s p =>
    let st := match s.serves p with
      | some b => if b < 32 then 1 else 2
      | none => 2
    s.setPhys p { s.phys p with st := st, moveTo := none }) s
  let kept := fun (a : Nat) => inRange a sramBase 0x400000
  let bk := { s.bank with ue := s.bank.ue.filter (fun w => kept (w * 32)), ce := s.bank.ce.filter (fun w => kept (w * 32)) }
  let dr := { s.dram with chans := [], selfRefresh := false }
  { s with mem := s.mem.filter (fun c => kept c.1), bank := bk, dram := dr }

/-- STANDBY_ENTRY (R490): the bridge takes up the request once the start has ended and no cue port request is in progress
(R423). -/
def execStandbyEntry (at_ : Nat) (s : State) : Host.Outcome State Fault Refusal :=
  let next := (s.nextPlain.map (·.job)) == some .standby
  let busy := (List.range 4).any (fun x => (s.ctx x).port.isSome && !s.queue.any (fun e => e.cue == some x))
  if !s.power.open_ ∨ s.pwState ≠ 2 ∨ !next ∨ busy then .next s else
  let s := s.atTime at_
  let img := s.snapshot
  let s := s.setN 0x1501 3 img.length
  if s.getN 0x1501 2 < img.length then
    let s := { (s.setN 0x1500 7 1) with power := { s.power with stdbyAsked := false } }
    .next (s.complete isStandbyJob { status := 7, payload := [] })
  else
    let s := s.cueFreeze
    let s := { s with mem := memWrite s.mem (s.getN 0x1501 1) img }
    let s := s.complete isStandbyJob { status := 0, payload := [] }
    let s := (s.dpStop true).standbyBanks
    let s := ((s.setN 0x1500 9 0).setN 0x1500 6 6).setPw 4 0
    .next { s with power := { s.power with enables := 0, kind := 3, stdbyAsked := false } }

/-- Leaving standby: the start-up sequence from step 1. -/
def State.wake (s : State) : State :=
  if s.pwState = 4 then (s.powerUp).setPw 5 1 else s

/-- SPAN_ENERGY_WAKE (R493): a worker in standby sees energy after at least 1 ms without. -/
def execSpanEnergyWake (_p : Fin 4) (s : State) : Host.Outcome State Fault Refusal :=
  if s.mgr then .next s else .next s.wake

end Sys2Proof.Machine
end

