-- ==== Sys2Proof/Machine/Bridge.lean ====
section
/-! DEFINITION. The control-plane bridge (R15, R18–R22): reads and writes of objects in the data plane, DOMAIN transfers
(R93–R98, R444), LOG_READ (R464), the effects of every RW and WO object, and the rows that complete bridge work. -/
namespace Sys2Proof.Machine

/-! ## The memory window (R444) -/

def State.cwAddr (s : State) (k : Nat) : Nat := s.getN 0x2B08 1 + k

/-- Whether a transfer of the window reaches DRAM (R523). -/
def State.cwDram (s : State) (k n : Nat) : Bool :=
  (List.range (n / 32 + 2)).any (fun i =>
    match (remapAddr s.remap (s.cwAddr (k + min (32 * i) (n - 1)))).map (place s.dramU) with
    | some (.dram _) => true
    | _ => false)

/-- The status of a transfer by its response (R444). -/
def cwStatus (code : Nat) : Nat := if code = 0 then 0 else if code = 2 then 6 else 7

/-! ## DOMAIN transfers (R93–R97) -/

/-- The content of a DOMAIN, staged where asked for and there is a staged buffer (R94, R97). -/
def State.domData (s : State) (t idx sub : Nat) (staged : Bool) : List Byte :=
  match (if staged then s.stagedAt idx sub else none) with
  | some e => e.val.data
  | none => (s.view t idx sub).data

/-- BLOCK_READ: the result (R48, R94, R95). -/
def State.blockReadDo (s : State) (t idx sub off max : Nat) (staged : Bool) : State × Res :=
  if idx = 0x2B09 then
    if 0x1000000 < off then (s, { status := 7, payload := [] })
    else
      let (s, r) := s.readMem 13 t (s.cwAddr off) (min max (0x1000000 - off))
      (s, { status := cwStatus r.code, payload := if r.code = 0 then r.data else [] })
  else
    let l := s.domData t idx sub staged
    if l.length < off then (s, { status := 7, payload := [] })
    else (s, { status := 0, payload := (l.drop off).take max })

/-- Whether context `x` is halted or faulted (R426). -/
def State.ctxStopped (s : State) (x : Nat) : Bool := (s.ctx x).st == 0 || (s.ctx x).st == 3

/-- A context's registers from 136 bytes of CX_REGS. -/
def State.setCtxBytes (s : State) (x : Nat) (l : List Byte) : State :=
  let c := s.ctx x
  let c := (List.range 16).foldl (fun (c : Ctx) i => c.setReg i (BitVec.ofNat 64 (leAt l (8 * i) 8))) c
  s.setCtx x { c with cs := leAt l 128 8 }

/-- The content a BLOCK_WRITE leaves (R93). -/
def blockPatch (old : List Byte) (off : Nat) (trunc : Bool) (data : List Byte) : List Byte :=
  if trunc then old.take off ++ data else patch old off data

/-- BLOCK_WRITE: the state and the status (R93, R96, R97). For an RS DOMAIN the room of R87 is looked for when the bridge performs
the transfer: the manual does not join the edge E of R87 with the queueing of R98 (log entry 112). -/
def State.blockWriteDo (s : State) (t : Nat) (o : Obj) (off : Nat) (trunc : Bool) (data : List Byte) : State × Nat :=
  if o.idx = 0x2B09 then
    if 0x1000000 < off + data.length then (s, 7)
    else
      let (s', r) := s.writeMem 13 t (s.cwAddr off) data
      -- one unit (R96): nothing is written unless every transaction is performed
      if r.code = 0 then (s', 0) else ({ s' with mem := s.mem }, cwStatus r.code)
  else if inRange o.idx 0x2B10 4 then
    let x := o.idx - 0x2B10
    if !s.ctxStopped x then (s, 6)
    else if (s.ctx x).size < off ∨ 136 < off + data.length then (s, 7)
    else
      -- TRUNCATE moves the present size; the registers whose bytes lie beyond it keep their values (log entry 95)
      let size := if trunc then off + data.length else max (s.ctx x).size (off + data.length)
      let s := s.setCtxBytes x (patch (s.ctx x).bytes off data)
      (s.setCtx x { s.ctx x with size := size }, 0)
  else
    let rs := o.d.acc == .rs
    let old := s.domData t o.idx o.sub rs
    let new := blockPatch old off trunc data
    if old.length < off ∨ o.d.ty.domMax < new.length ∨ !o.inRng s.mgr (.bytes new) then (s, 7)
    else if rs then
      if s.stageFull t o.idx o.sub then (s.count 0x1F01 4, 0x0E) else (s.stage t o.idx o.sub (.bytes new), 0)
    else
      let s := s.setB o.idx o.sub new
      (if inRange o.idx 0x2100 32 then s.edidWritten (o.idx - 0x2100) else s, 0)

/-! ## RW and WO objects -/

/-- CX_CONTROL (R424, R425). -/
def State.cxControl (s : State) (x v : Nat) : State × Nat :=
  if v = 1 then s.cueStart x else if v = 2 then s.cueHaltAt x else if v = 3 then s.cueStep x else (s, 7)

/-- WD_HOST_S (R471): the count restarts from the settle edge. -/
def State.wdHostS (s : State) (v : Nat) : State :=
  let s := s.setN 0x1440 1 v
  { s with ev := { s.ev with lastOk := s.tbc, hostArmed := v != 0 } }

/-- KO_ABANDON (R183, R184). -/
def State.koAbandonWrite (s : State) : State := if s.koState = 1 ∨ s.koState = 2 then s.koAbandoned else s

/-- TN_RIGHTS (R453, R457). -/
def State.tnRights (s : State) (u by_ v : Nat) : State := (s.setN (0x1380 + u) 4 v).audit 8 by_ u (0x1380 + u) 4 0

/-- A control-plane RW or WO write at its settle edge. -/
def State.applyCtl (s : State) (t : Nat) (o : Obj) (v : Val) : State :=
  let i := o.idx; let n := v.nat
  if i = 0x1220 then
    let x := s.tenant t
    if o.sub = 1 then s.setTenant t { x with subWorker := n } else if o.sub = 2 then s.setTenant t { x with subTarget := n } else s
  else if inRange i 0x1380 128 then
    let u := i - 0x1380
    if o.sub = 1 then s.tnEnable u t n
    else if o.sub = 2 then s.setTenant u { s.tenant u with pendHi := some n }
    else if o.sub = 3 then s.newCode u t n
    else s.tnRights u t n
  else if i = 0x1440 then s.wdHostS n
  else if i = 0x1500 ∧ o.sub = 4 then s.wake
  else if i = 0x1500 ∧ o.sub = 5 then s.hostReset
  else if i = 0x1F00 ∧ o.sub = 1 then s.setTenant t { s.tenant t with koEpoch := n }
  else if i = 0x1F00 ∧ o.sub = 5 then s.koAbandonWrite
  else if i = 0x1F08 then s.setTenant t { s.tenant t with whEpoch := n }
  else if i = 0x1F02 then s.setTenant t { s.tenant t with spTarget := n }
  else s.setV i o.sub v

/-- A data-plane RW or WO write: the state and the status. -/
def State.applyData (s : State) (o : Obj) (v : Val) : State × Nat :=
  let i := o.idx; let n := v.nat
  if inRange i 0x2200 48 then (s.forceSafe (i - 0x2200) n, 0)
  else if inRange i 0x2748 16 then (if n = 1 then s.playStart (i - 0x2748) else s.playStop (i - 0x2748), 0)
  else if i = 0x2904 then s.mtRunNow n
  else if inRange i 0x2B10 4 then
    let x := i - 0x2B10
    if o.sub = 1 then s.cxControl x n
    else if !s.ctxStopped x then (s, 6)
    else if o.sub = 3 then (s.setCtx x { s.ctx x with pc := n }, 0)
    else (s.setV i o.sub v, 0)
  else if inRange i 0x2C00 4 then
    let s := s.setV i o.sub v
    (if o.sub = 1 then s.spanEnable (i - 0x2C00) else s, 0)
  else (s.setV i o.sub v, 0)

/-! ## Reads -/

/-- A bridge READ: the value latched, and an RC object cleared in the same cycle (R64, R65). -/
def State.readDo (s : State) (t idx sub : Nat) : State × Res :=
  if sub = 0xFF then
    match s.recordRow idx with
    | some r => (s, { status := 0, payload := s.recordOf t r idx })
    | none => (s, { status := 4, payload := [] })
  else match findObj s.mgr idx sub with
    | none => (s, { status := 4, payload := [] })
    | some o =>
      let v := s.view t idx sub
      let r : Res := { status := 0, payload := encodeVal o.d.ty v }
      (if o.d.acc == .rc then s.rcClear idx sub v.nat else s, r)

/-- LOG_READ of the held entries of a log (R464, R47). -/
def logSlice (es : List (List Byte)) (first count : Nat) : List Byte :=
  ((es.drop first).take (if count = 0 then 256 else count)).flatten

/-! ## Bridge work -/

/-- The number a payload carries into an object, or its bytes. -/
def payloadVal (o : Obj) (l : List Byte) : Val := decodeVal o.d.ty l

/-- Perform plain bridge work: its result, or none while it still needs another step. -/
def State.bridgeDo (s : State) (e : BEntry) : State × Option Res :=
  match e.job with
  | .read idx sub => let (s, r) := s.readDo e.ten idx sub; (s, some r)
  | .write idx sub l =>
    match findObj s.mgr idx sub with
    | none => (s, some { status := 4, payload := [] })
    | some o => let (s, c) := s.applyData o (payloadVal o l); (s, some { status := c, payload := [] })
  | .blockRead idx sub off max staged => let (s, r) := s.blockReadDo e.ten idx sub off max staged; (s, some r)
  | .blockWrite idx sub off trunc data =>
    match findObj s.mgr idx sub with
    | none => (s, some { status := 4, payload := [] })
    | some o => let (s, c) := s.blockWriteDo e.ten o off trunc data; (s, some { status := c, payload := [] })
  | .logRead l first count => (s, some { status := 0, payload := logSlice (s.logEntries l) first count })
  | .erase => (s.eraseImage.setN 0x1510 1 0, some { status := 0, payload := [] })
  | .mrProgram v => if s.repairRefuses v then (s, some { status := 7, payload := [] }) else (s, none)
  | _ => (s, none)

/-- Whether work can be done by the last turnaround edge at all (R523): it reaches neither DRAM nor a store nor a test. -/
def State.quick (s : State) (j : Job) : Bool :=
  match j with
  | .read _ _ | .write _ _ _ | .logRead _ _ _ => true
  | .blockRead idx _ off max _ => !(idx == 0x2B09 && s.cwDram off max)
  | .blockWrite idx _ off _ data => !(idx == 0x2B09 && s.cwDram off data.length)
  | _ => false

/-- BRIDGE_COMPLETE (R19, R21): the data plane performs the next work in the bridge queue's order and sets its done flag. -/
def execBridgeComplete (at_ : Nat) (s : State) : Host.Outcome State Fault Refusal :=
  if !s.power.open_ then .next s else
  match s.nextPlain with
  | none => .next s
  | some e =>
    let s := s.atTime at_
    match s.bridgeDo e with
    | (s, some r) => .next (s.finishEntry (s.queue.findIdx (fun d => d.res.isNone && d.job.plain)) e r)
    | (s, none) => .next s

/-- MTP_SAVE_DONE (R104, R107, R108): the save in progress ends. `bad` sectors fail their verify; a supply falls below its
programming minimum after `low` sectors (R503). -/
def execMtpSaveDone (bad : List (Fin 128)) (low : Option Nat) (at_ : Nat) (s : State) : Host.Outcome State Fault Refusal :=
  match s.mtp.saving with
  | none => .next s
  | some img =>
    let s := (s.atTime at_)
    let s := { s with mtp := { s.mtp with saving := none } }
    let (s, c) := s.saveImage img (bad.map (·.val)) low
    let s := (s.setN 0x1510 1 0).storeShow
    let s := if c = 0 then s else s.setN 0x1510 9 c
    .next (s.complete (fun e => e.job == .save) { status := if c = 0 then 0 else 0x0D, payload := [] })

/-- The codes that can end a request, all of the table of chapter 2 but 0x08 (R70). -/
def fuseCode (i : Fin 16) : Nat := if i.val < 8 then i.val else i.val + 1

/-- MR_PROGRAM_DONE (R386): the lowest free customer slot is programmed and verified; the record takes effect at the next
start. After a failed verify neither the bits that stuck nor the status are known (log entry 31). -/
def execMrProgramDone (ok : Bool) (at_ : Nat) (s : State) : Host.Outcome State Fault Refusal :=
  if !s.power.open_ then .next s else
  match s.nextPlain with
  | none => .next s
  | some d =>
    match d.job with
    | .mrProgram v =>
      if s.repairRefuses v then .next s else
      let s := s.atTime at_
      let seed := s.seed
      let (s, w) := if ok then (s, v) else (s.drawn, v &&& (Config.fuseBits seed).toNat)
      let slot := s.bank.customer.findIdx (· == 0)
      let s := { s with bank := { s.bank with customer := s.bank.customer.set slot w } }
      let s := s.setN 0x2906 2 (s.bank.customer.filter (· == 0)).length
      .next (s.complete (fun e => e.job == .mrProgram v) { status := if ok then 0 else fuseCode (Config.fuseStatus seed), payload := [] })
    | _ => .next s

/-- HOST_SILENCE_WATCHDOG (R471): no frame has passed its CRC check for WD_HOST_S seconds of TBC. -/
def execHostSilenceWatchdog (s : State) : Host.Outcome State Fault Refusal :=
  if !s.power.run ∨ !s.ev.hostArmed ∨ s.getN 0x1440 1 = 0 then .next s else
  let s := s.atTime (s.ev.lastOk + s.getN 0x1440 1 * Config.ticksPerSec)
  let s := (s.event 30).count 0x1440 2
  let s := (List.range 4).foldl (fun s x => let c := s.ctx x; s.setCtx x { c with sig := putBit c.sig 15 true }) s
  .next { s with ev := { s.ev with hostArmed := false } }

/-- CRC_STORM_EXIT (R73): DZ_SEL sampled high on 64 consecutive edges. A worker has no DZ_SCK, and its strobe is stopped between
frames (R8, R28), so it never samples them. The run of CRC failures starts anew with the state left (log entry 114). -/
def execCrcStormExit (s : State) : Host.Outcome State Fault Refusal :=
  if s.power.held ∨ !s.mgr then .next s else
  let s := { s with sck := (s.sck + 64) % 2 ^ 48, link := { s.link with openSeen := false } }
  .next { s with link := if s.link.storm then { s.link with storm := false, crcRun := 0 } else s.link }

end Sys2Proof.Machine
end

