-- ==== Sys2Proof/Machine/Operands.lean ====
section
/-! DEFINITION. Operand forms of the request frames (chapter 2): which types address no object (R40), which a broadcast
carries (R60), which belong to a Kickoff (R186), which change state (R52), the offset field of the block transfers (R93,
R94), and the address a cue port request names (R432). -/
namespace Sys2Proof.Machine

/-- Types that address no object (R40). -/
def objectless (ty : Nat) : Bool := [0, 5, 6, 7, 8, 9, 0xA, 0xC, 0xD, 0xE].contains ty

/-- Types that a broadcast carries (R60). -/
def carried (ty : Nat) : Bool := [2, 4, 5, 6, 7, 0xE].contains ty

/-- PREPARE, KICKOFF and WHISTLE, which carry worker address 0 (R186). -/
def kickType (ty : Nat) : Bool := [5, 6, 7].contains ty

/-- Types that may change state: all but POLL, READ, BLOCK_READ and LOG_READ (R52). -/
def changes (ty : Nat) : Bool := !([0, 1, 3, 0xB].contains ty)

/-- A frame with another object's address. -/
def atObject (f : Frame) (idx sub : Nat) : Frame := { f with index := BitVec.ofNat 16 idx, sub := BitVec.ofNat 8 sub }

/-- The offset field of a block transfer: OFFSET, the reserved bits, MODE. -/
def blockOffset (payload : List Byte) : Nat := bits (beAt payload 0 4) 23 0
def blockReserved (payload : List Byte) : Nat := bits (beAt payload 0 4) 30 24
def blockMode (payload : List Byte) : Bool := bitAt (beAt payload 0 4) 31

/-- The object a cue port request names in c[ra]: `none` with bits [63:24] set (R432). -/
def cueTarget (a : Word) : Option (Nat × Nat) :=
  if 2 ^ 24 ≤ a.toNat then none else some (a.toNat / 256, a.toNat % 256)

end Sys2Proof.Machine
end

