-- ==== Sys2Proof/Machine/Transact.lean ====
section
/-! DEFINITION. Transactions (chapter 2): the order of checks (R50), what each type does at edge E and at its settle edge
(R45), the replay record (R52), the bridge queue (R53, R54), broadcasts (R59–R63), relaying (R29, R168), and the frame on
the wire (R41–R44, R71–R73). -/
namespace Sys2Proof.Machine

/-! ## Requests and verdicts -/

/-- A frame as the device that executes it sees it: its type, whether its outcome goes to LAST_BROADCAST (R63), and the cue
context whose DWR it stands for (R432). -/
structure Req where
  ty : Nat
  f : Frame
  bcast : Bool := false
  cue : Option Nat := none
  deriving DecidableEq, Repr

def Req.t (r : Req) : Nat := r.f.ten.toNat % 128
def Req.echo (r : Req) : Nat := r.ty * 16 + r.f.seq.toNat
def Req.idx (r : Req) : Nat := r.f.index.toNat
def Req.sub (r : Req) : Nat := r.f.sub.toNat
def Req.len (r : Req) : Nat := r.f.len.toNat
def Req.crc (r : Req) : Nat := r.f.crc.toNat

/-- What a transaction comes to: the state with its effects at edge E, its status and payload, what its settle edge adds
(R45), and what happens instead when the response is cut short (R56, R58). `full` is the refusal of R54; `echo` an
echo byte other than the request's (R55); `lb` the status for LAST_BROADCAST where it differs. -/
structure Verdict where
  st : State
  status : Nat
  payload : List Byte := []
  full : Bool := false
  echo : Option Nat := none
  lb : Option Nat := none
  commit : State → State := id
  cut : State → State := id

/-- A refusal with nothing done. -/
def State.refuse (s : State) (c : Nat) : Verdict := { st := s, status := c }

/-- A control-plane effect at the settle edge, answered 0x00. -/
def State.atSettle (s : State) (g : State → State) : Verdict := { st := s, status := 0, commit := g }

/-- A violation of the link, with the request bytes received before edge `k` of the frame (R71, R466). -/
def State.reqViolation (s : State) (r : Req) (cause k : Nat) : State :=
  let got := fun i v => if 8 * (i + 1) < k then v else 0
  s.linkViolation cause (got 1 r.f.mgr.toNat) (got 2 r.f.wrk.toNat) (got 3 r.echo) (got 7 r.f.ten.toNat)
    (if 48 < k then r.idx else if 40 < k then r.idx / 256 * 256 else 0)

/-- DZ_SEL is high: no frame is open (R42, R74). -/
def State.selHigh (s : State) : State := { s with link := { s.link with openSeen := false } }

/-- SCK edges pass (R12). -/
def State.clock (s : State) (n : Nat) : State := { s with sck := (s.sck + n) % 2 ^ 48 }

/-! ## The bridge queue (R53, R54, R58) -/

/-- Entries of the queue that belong to requests on the link. -/
def State.hostEntries (s : State) : List BEntry := s.queue.filter (fun e => e.cue.isNone)

/-- Room for `n` entries of tenant `t` (R53). -/
def State.queueRoom (s : State) (t n : Nat) : Bool :=
  decide (s.hostEntries.length + n ≤ Config.queueMax) &&
  decide ((s.hostEntries.filter (fun e => e.ten == t)).length + n ≤ Config.queueTenantMax)

/-- Whether a request finds no room; a DWR takes no place of the queue (R434). -/
def State.noRoom (s : State) (r : Req) : Bool := r.cue.isNone && !s.queueRoom r.t 1

/-- The queue, or the tenant's share, is full (R54, cause 0x0C). -/
def State.queueFull (s : State) (r : Req) : Verdict :=
  { st := s.reqViolation r 0x0C 10000, status := 8, full := true }

def Req.entry (r : Req) (j : Job) : BEntry := { ten := r.t, echo := r.echo, crc := r.crc, job := j, bcast := r.bcast, cue := r.cue }

/-- Release a result that a response has carried (R56). -/
def State.release (s : State) (e : BEntry) : State := { s with queue := s.queue.erase e }

/-- A request whose result `q` is there at the last turnaround edge when `inTime` (R19), or just not (R58). A broadcast of a
manager is not answered: nothing is held for it. -/
def State.answerNow (s : State) (r : Req) (j : Job) (q : Res) : Verdict :=
  if (r.bcast ∧ s.mgr) ∨ r.cue.isSome then { st := s, status := q.status, payload := q.payload }
  else
    let e := { r.entry j with res := some q }
    let s := { s with queue := s.queue ++ [e] }
    if r.f.inTime then { st := s, status := q.status, payload := q.payload, commit := fun s => s.release e, cut := fun s => s.event 0 }
    else { st := s.event 0, status := 8, lb := some q.status }

/-- A request that waits in the queue. -/
def State.answerLater (s : State) (r : Req) (j : Job) : Verdict :=
  { st := ({ s with queue := s.queue ++ [r.entry j] }).savePump, status := 8 }

/-- Post plain bridge work on edge E (R18–R21): it is done at once where it is next, quick enough, and the data plane
serves. -/
def State.postWork (s : State) (r : Req) (j : Job) : Verdict :=
  if s.noRoom r then s.queueFull r
  else
    let ahead := s.queue.any (fun d => d.res.isNone && d.job.plain)
    if s.power.open_ && !ahead && r.f.inTime && s.quick j then
      match s.bridgeDo (r.entry j) with
      | (s, some q) => s.answerNow r j q
      | (s, none) => s.answerLater r j
    else s.answerLater r j

/-! ## Types that address no object -/

/-- NOP/POLL (R55): the oldest held result of the tenant. -/
def State.doPoll (s : State) (r : Req) : Verdict :=
  if r.len ≠ 0 then s.refuse 5 else
  match s.queue.find? (fun e => e.ten == r.t && e.cue.isNone && !(e.bcast && s.mgr)) with
  | none => { st := s, status := 0 }
  | some e =>
    match e.res with
    | none => { st := s, status := 8, echo := some e.echo }
    | some q => { st := s, status := q.status, payload := q.payload, echo := some e.echo, commit := fun s => s.release e, cut := fun s => s.event 0 }

/-- The epoch that a KICKOFF or WHISTLE names: its payload, else the tenant's standing epoch (R196, R198). -/
def epochOf (payload : List Byte) (standing : Nat) : Option Nat :=
  if payload.length = 8 then some (ofBE payload) else if standing ≠ 0 then some standing else none

/-- The right to a Kickoff, Whistle or prepare (R187), or 0x06. A worker asks it of the frames its manager relays, too (R50). -/
def State.kickDenied (s : State) (r : Req) : Bool := !(s.tenant r.t).session || !s.kickRight r.t

/-- Whether a PREPARE, KICKOFF or WHISTLE comes down the tree: on a worker each of them does (R186, R190). -/
def State.fromAboveKick (s : State) : Bool := !s.mgr

/-- The result of a Kickoff that has ended within its own acceptance: nothing was in scope, or it was refused. A request that finds
the bridge closed waits in its queue, in KO_STATE 1 (R183, R488). -/
def State.koEnded (s : State) (prepare : Bool) : Option Res :=
  if s.koState = 6 then some { status := 0x0E, payload := [] }
  else if prepare ∧ s.koState = 2 then some { status := 0, payload := [] } else none

/-- PREPARE (R183). -/
def State.doPrepare (s : State) (r : Req) : Verdict :=
  if s.kickDenied r then s.refuse 6
  else if r.len ≠ 0 then s.refuse 5
  else if !s.koAccepts false then s.refuse 0x0B
  else if s.noRoom r then s.queueFull r
  else
    let s := s.koPrepare r.t s.fromAboveKick
    match s.koEnded true with
    | some q => s.answerNow r .prepare q
    | none => s.answerLater r .prepare

/-- KICKOFF (R183, R196–R198). -/
def State.doKickoff (s : State) (r : Req) : Verdict :=
  if s.kickDenied r then s.refuse 6
  else if r.len ≠ 0 ∧ r.len ≠ 8 then s.refuse 5
  else if !s.koAccepts true then s.refuse 0x0B
  else if s.noRoom r then s.queueFull r
  else
    let ep := epochOf r.f.payload (s.tenant r.t).koEpoch
    let s := if r.len = 0 then s.setTenant r.t { s.tenant r.t with koEpoch := 0 } else s
    let s := s.koKickoff r.t ep s.fromAboveKick
    match s.koEnded false with
    | some q => s.answerNow r (.kickoff ep s.fromAboveKick) q
    | none => s.answerLater r (.kickoff ep s.fromAboveKick)

/-- WHISTLE (R203, R204): armed at edge E, its entries leave the staging store at settle. -/
def State.doWhistle (s : State) (r : Req) : Verdict :=
  if s.kickDenied r then s.refuse 6
  else if r.len ≠ 0 ∧ r.len ≠ 8 then s.refuse 5
  else if !s.whAccepts then s.refuse 0x0B
  else if s.noRoom r then s.queueFull r
  else
    let ep := epochOf r.f.payload (s.tenant r.t).whEpoch
    let s := if r.len = 0 then s.setTenant r.t { s.tenant r.t with whEpoch := 0 } else s
    { (s.whEnter r.t ep s.fromAboveKick).answerLater r (.whistle ep s.fromAboveKick) with commit := fun s => s.whTake r.t }

/-- A wrong access code (R448, R449): its effects stand from edge E. -/
def State.wrongCode (s : State) (t : Nat) : State :=
  let s := (s.count 0x1300 1).audit 2 t t 0 0 6
  let n := (s.tenant t).fails + 1
  if n < 8 then s.setTenant t { s.tenant t with fails := n }
  else
    let s := s.setTenant t { s.tenant t with fails := n, lock := Config.lockoutTicks, lockLogged := false }
    ((s.count 0x1300 2).audit 3 t t 0 0 9).event 26

/-- SESSION_OPEN (R448). Of a disabled tenant with a payload of another length the length is judged first, 0x05: the place of the
0x06 of R448 among steps 9 and 10 is the model's choice (log entry 113). -/
def State.doSessionOpen (s : State) (r : Req) : Verdict :=
  let t := r.t
  if r.len ≠ 16 then s.refuse 5
  else if !s.tenEnabled t then (s.audit 2 t t 0 0 6).refuse 6
  else if r.f.payload ≠ s.code t then (s.wrongCode t).refuse 6
  else s.atSettle (fun s => (s.setTenant t { s.tenant t with session := true, fails := 0 }).audit 1 t t 0 0 0)

/-- SESSION_CLOSE (R450). -/
def State.doSessionClose (s : State) (r : Req) : Verdict :=
  if !(s.tenant r.t).session then s.refuse 6
  else if r.len ≠ 0 then s.refuse 5
  else s.atSettle (fun s => s.closeSession r.t r.t 5 0 0)

/-- ROLL_CALL (R166). -/
def State.doRollCall (s : State) (r : Req) : Verdict :=
  if !(s.tenant r.t).session then s.refuse 6
  else if r.len ≠ 0 then s.refuse 5
  else if s.noRoom r then s.queueFull r
  else
    if s.power.open_ ∧ s.spans.members = [] then
      -- every present member has answered: the roll call ends at once
      let c := s.newRoll false
      let s := (s.rollStart false).rollEnd c
      s.answerNow r .rollCall { status := 0, payload := s.census c }
    else
      let v := s.answerLater r .rollCall
      if !s.power.open_ then v else { v with st := v.st.rollStart false }

/-- The number of the log object at an index: 0–4, 5 for TN_AUDIT. -/
def logOf (idx sub : Nat) : Option Nat :=
  if sub ≠ 0 then none else if inRange idx 0x1410 5 then some (idx - 0x1410) else if idx = 0x1301 then some 5 else none

/-- LOG_READ (R47, R464). -/
def State.doLogRead (s : State) (r : Req) : Verdict :=
  match s.findOr r.idx r.sub with
  | .inl c => s.refuse c
  | .inr o =>
    if !s.granted r.t o false then s.refuse 6
    else match logOf r.idx r.sub with
      | none => s.refuse 5
      | some l =>
        if r.len ≠ 3 then s.refuse 5
        else
          let first := beAt r.f.payload 0 2
          let n := byteAt r.f.payload 2
          if l = 0 then { st := s, status := 0, payload := logSlice (s.logEntries 0) first n }
          else if l = 5 then { st := s, status := 0, payload := logSlice s.ev.audit first n }
          else s.postWork r (.logRead l first n)

/-- EVENT_ACK (R459): bits whose setting is seen on edge E or later stay set. WORKER_EVENT is a level (R458). -/
def State.doEventAck (s : State) (r : Req) (late : Nat) : Verdict :=
  if !(s.tenant r.t).session ∨ r.t ≠ 0 then s.refuse 6
  else if r.len ≠ 4 then s.refuse 5
  else
    let m := ofBE r.f.payload
    if bitAt m 31 then s.refuse 7
    else s.atSettle (fun s =>
      let gone := (List.range 31).filter (fun b => bitAt m b && !bitAt late b && b != 11)
      { s with ev := { s.ev with pend := gone.foldl (fun p b => putBit p b false) s.ev.pend } })

/-- A save refused at once (R108). -/
def State.saveRefused (s : State) (cause : Nat) : Verdict :=
  { st := s, status := 0x0D, commit := fun s => s.setN 0x1510 9 cause }

/-- SAVE and ST_SAVE_NOW (R16, R108): accepted into the bridge queue. -/
def State.postSave (s : State) (r : Req) : Verdict :=
  if !s.power.run then s.saveRefused 1
  else if s.power.stdbyAsked then s.saveRefused 5
  else if s.noRoom r then s.queueFull r
  else s.answerLater r .save

def State.doSave (s : State) (r : Req) : Verdict :=
  if !(s.tenant r.t).session ∨ r.t ≠ 0 then s.refuse 6
  else if r.len ≠ 0 then s.refuse 5
  else s.postSave r

/-- DISCARD of tenant `t` (R90, audit kind 10). -/
def State.discard (s : State) (t : Nat) : State :=
  let others := ((s.staging.filter (fun e => e.ten != 0)).map (·.ten)).mergeSort
  let s := match (if t = 0 then others.head? else none) with
    | some u => s.audit 10 0 u 0 0 0
    | none => s
  { s with staging := if t = 0 then [] else s.staging.filter (fun e => e.ten != t) }

def State.doDiscard (s : State) (r : Req) : Verdict :=
  if !(s.tenant r.t).session then s.refuse 6
  else if r.len ≠ 0 then s.refuse 5
  else if s.frozen then s.refuse 0x0B
  else s.atSettle (fun s => s.discard r.t)

/-! ## Objects -/

/-- READ (R64, R66, R81). -/
def State.doRead (s : State) (r : Req) : Verdict :=
  let t := r.t
  let ok := (s.tenant t).session
  match (if r.sub = 0xFF then s.recordRow r.idx else none) with
  | some row =>
    if !ok ∨ !s.recordReadable t row r.idx then s.refuse 6
    else if r.len ≠ 0 then s.refuse 5
    else s.postWork r (.read r.idx r.sub)
  | none =>
    match s.findOr r.idx r.sub with
    | .inl c => s.refuse c
    | .inr o =>
      if !s.granted t o false then s.refuse 6
      else if r.len ≠ 0 ∨ o.d.ty.isDom then s.refuse 5
      else if dataPlane r.idx then s.postWork r (.read r.idx r.sub)
      else
        let v := s.view t r.idx r.sub
        { st := s, status := 0, payload := encodeVal o.d.ty v,
          commit := fun s => if o.d.acc == .rc then s.rcClear r.idx r.sub v.nat else s }

/-- Whether a worker's subscription action can be sent: 0, or the code it completes with (R171, R172). -/
def State.subActCode (s : State) (add : Bool) (w : Nat) : Nat :=
  if !s.power.run ∨ !s.spans.members.any (fun m => m.addr == w) then 0x0A
  else if add ∧ 65536 ≤ s.spans.mirrors.length then 0x0E else 0

/-- SUB_ACTION (R172). -/
def State.doSubAction (s : State) (r : Req) (add : Bool) : Verdict :=
  let x := s.tenant r.t
  let idx := x.subTarget / 256 % 65536
  let sub := x.subTarget % 256
  if s.noRoom r then s.queueFull r
  else
    let j := Job.subAct add x.subWorker idx sub
    let c := s.subActCode add x.subWorker
    if c ≠ 0 then (s.setTenant r.t { x with subResult := c }).answerNow { r with f := { r.f with inTime := false } } j { status := c, payload := [] }
    else
      let msg := [if add then 0x11#8 else 0x13#8] ++ keyBytes x.subWorker r.t idx sub
      (s.sendDown x.subWorker 2 msg).answerLater r j

/-- WRITEs that the bridge carries out although they are no plain register write, or that the control plane answers with a
code of their own (R451, R484, R489). -/
def State.doSpecialWrite (s : State) (r : Req) (o : Obj) (v : Nat) : Option Verdict :=
  if o.idx = 0x1220 ∧ o.sub = 3 then some (s.doSubAction r (v == 1))
  else if inRange o.idx 0x1380 128 ∧ o.sub = 3 ∧ (s.tenant (o.idx - 0x1380)).pendHi = none then some (s.refuse 7)
  else if o.idx = 0x1500 ∧ o.sub = 3 then
    some (if s.power.stdbyAsked ∨ s.pwState = 3 ∨ s.pwState = 4 then { st := s, status := 7, commit := fun s => s.setN 0x1500 7 2 }
          else if s.noRoom r then s.queueFull r
          else { s.answerLater r .standby with st := { (s.answerLater r .standby).st with power := { s.power with stdbyAsked := true } } })
  else if o.idx = 0x1500 ∧ o.sub = 5 ∧ [1, 3, 4, 5, 6].contains s.pwState then some (s.refuse 7)
  else if o.idx = 0x1510 ∧ o.sub = 0x0B then
    some (if s.noRoom r then s.queueFull r else s.answerLater r .erase)
  else if o.idx = 0x1510 ∧ o.sub = 0x0C then some (s.postSave r)
  else if o.idx = 0x2860 ∧ o.sub = 9 then some (if s.noRoom r then s.queueFull r else s.answerLater r .neighbourTest)
  else if o.idx = 0x2906 ∧ o.sub = 1 then
    some (if s.power.open_ && s.repairRefuses v then s.refuse 7 else if s.noRoom r then s.queueFull r else s.answerLater r (.mrProgram v))
  else none

/-- An RS write (R86, R87) at its settle edge, with audit kind 9 for a tag. -/
def State.stageWrite (s : State) (t : Nat) (o : Obj) (v : Val) : State :=
  let s := s.stage t o.idx o.sub v
  match o.tagValue v with
  | some u => s.audit 9 t u o.idx o.sub 0
  | none => s

/-- A WRITE that has passed its checks. -/
def State.doWriteTo (s : State) (r : Req) (o : Obj) : Verdict :=
  let v := payloadVal o r.f.payload
  if o.d.acc == .rs then
    if s.stageFull r.t o.idx o.sub then { st := s, status := 0x0E, commit := fun s => s.count 0x1F01 4 }
    else s.atSettle (fun s => s.stageWrite r.t o v)
  else match s.doSpecialWrite r o v.nat with
    | some w => w
    | none =>
      if dataPlane o.idx then s.postWork r (.write o.idx o.sub r.f.payload)
      else s.atSettle (fun s => s.applyCtl r.t o v)

/-- WRITE (R47, R50). -/
def State.doWrite (s : State) (r : Req) : Verdict :=
  match s.writeCheck r.t (s.tenant r.t).session r.idx r.sub r.f.payload with
    | .inl c => s.refuse c
    | .inr o => s.doWriteTo r o

/-- BLOCK_READ (R47, R94). -/
def State.doBlockRead (s : State) (r : Req) : Verdict :=
  match s.findOr r.idx r.sub with
  | .inl c => s.refuse c
  | .inr o =>
    let n := beAt r.f.payload 4 2
    if !s.granted r.t o false then s.refuse 6
    else if !o.d.ty.isDom ∨ r.len ≠ 6 then s.refuse 5
    else if blockReserved r.f.payload ≠ 0 ∨ n = 0 ∨ 4096 < n ∨ (blockMode r.f.payload ∧ o.d.acc ≠ .rs) then s.refuse 7
    else s.postWork r (.blockRead r.idx r.sub (blockOffset r.f.payload) n (blockMode r.f.payload))

/-- BLOCK_WRITE (R47, R93, R98). -/
def State.doBlockWrite (s : State) (r : Req) : Verdict :=
  match s.findOr r.idx r.sub with
  | .inl c => s.refuse c
  | .inr o =>
    let k := blockOffset r.f.payload
    let data := r.f.payload.drop 4
    if !s.granted r.t o true then s.refuse 6
    else if !o.d.ty.isDom ∨ r.len < 5 then s.refuse 5
    else if o.d.maint ∧ s.getN 0x1F20 0 = 0 then s.refuse 0x0F
    else if s.freezeCheck o then s.refuse 0x0B
    else if blockReserved r.f.payload ≠ 0 ∨ o.d.ty.domMax < k + data.length ∨ (blockMode r.f.payload ∧ r.idx = 0x2B09) then s.refuse 7
    else s.postWork r (.blockWrite r.idx r.sub k (blockMode r.f.payload) data)

/-! ## The device that executes (steps 4 and 6–13) -/

/-- What each type does once steps 1–6 have passed. -/
def State.doType (s : State) (r : Req) (late : Nat) : Verdict :=
  if r.ty = 0 then s.doPoll r
  else if r.ty = 1 then s.doRead r
  else if r.ty = 2 then s.doWrite r
  else if r.ty = 3 then s.doBlockRead r
  else if r.ty = 4 then s.doBlockWrite r
  else if r.ty = 5 then s.doPrepare r
  else if r.ty = 6 then s.doKickoff r
  else if r.ty = 7 then s.doWhistle r
  else if r.ty = 8 then s.doSessionOpen r
  else if r.ty = 9 then s.doSessionClose r
  else if r.ty = 0xA then s.doRollCall r
  else if r.ty = 0xB then s.doLogRead r
  else if r.ty = 0xC then s.doEventAck r late
  else if r.ty = 0xD then s.doSave r
  else if r.ty = 0xE then s.doDiscard r
  else s.refuse 2

/-- A transaction of a locked-out tenant (R449): audit kind 4 once for each lockout. -/
def State.lockRefused (s : State) (t : Nat) : Verdict :=
  if (s.tenant t).lockLogged then s.refuse 9
  else ((s.setTenant t { s.tenant t with lockLogged := true }).audit 4 t t 0 0 9).refuse 9

/-- The replay record takes an executed state-changing request at its settle edge (R52). One answered 0x08 whose result has by
then turned out a refusal leaves a record that matches no request. -/
def State.recordReplay (s : State) (r : Req) (v : Verdict) : State :=
  if changes r.ty && !v.full && (v.status == 0 || v.status == 8) then
    let refused := v.status == 8 && (v.lb.getD 0) != 0
    { s with link := { s.link with replay := if refused then none else some (r.echo, r.crc) } }
  else s

/-- Steps 4 and 6–13, and the execution (R50, R52). -/
def State.serveHere (s : State) (r : Req) (late : Nat) : Verdict :=
  if changes r.ty && s.link.replay == some (r.echo, r.crc) then
    ((s.count 0x1102 5).reqViolation r 0x0B 10000).refuse 0x0C
  else
    let s := s.lockRefresh r.t
    if r.ty ≠ 0 ∧ s.lockedOut r.t then s.lockRefused r.t
    else
      let v := s.doType r late
      { v with commit := fun s => (v.commit s).recordReplay r v }

/-! ## Workers' part (R29, R59–R62, R168) -/

/-- Whether relaying to worker `w` is possible (step 5). -/
def State.reaches (s : State) (w : Nat) : Bool := s.power.run && s.spans.members.any (fun m => m.addr == w)

/-- The mirror entry that answers a READ (R173). -/
def State.mirrorFor (s : State) (r : Req) : Option Mirror :=
  if r.ty ≠ 1 ∨ r.len ≠ 0 then none else
  let hit := fun (m : Mirror) => m.filled && m.w == r.f.wrk.toNat && m.idx == r.idx && m.sub == r.sub
  match s.spans.mirrors.find? (fun m => hit m && m.ten == r.t) with
  | some m => some m
  | none => if r.t = 0 then s.spans.mirrors.find? hit else none

/-- A frame for one worker (R29). -/
def State.serveWorker (s : State) (r : Req) : Verdict :=
  let w := r.f.wrk.toNat
  if !s.reaches w then s.refuse 0x0A
  else match s.mirrorFor r with
    | some m => if r.bcast then s.refuse 2 else { st := s, status := 0, payload := m.val }
    | none =>
      if s.noRoom r then s.queueFull r
      else (s.relayTo w r.ty r.f).answerLater r (.relay w r.ty r.f)

/-- Relay a frame to every present worker (R62): once by each downstream port, and each worker passes it on. -/
def State.relayEvery (s : State) (r : Req) : State := s.downPorts.foldl (fun s p => s.chanSend p 0 (wireBytes r.ty r.f)) s

/-- A single-manager frame with worker address 255 (R59, R62). -/
def State.serveAll (s : State) (r : Req) : Verdict :=
  if !s.power.run then s.refuse 0x0A
  else if s.noRoom r then s.queueFull r
  else
    let ws := s.present
    let j := Job.relayAll 0 r.ty r.f ws []
    if ws.isEmpty then s.answerNow { r with bcast := false, f := { r.f with inTime := false } } j (combine 0 [])
    else (s.relayEvery r).answerLater { r with bcast := false } j

/-- A 0x3F frame with worker address 255 (R62): the manager's own part, and the workers' part. -/
def State.serveOwnAndAll (s : State) (r : Req) : Verdict :=
  let v := s.serveHere r 0
  let own := if v.status = 8 then 0 else v.status
  let ws := v.st.present
  let s' := v.st
  if v.full then v
  else if !s'.power.run then
    -- no worker is reached: an own part still in progress hands 0x0A on if it ends with 0x00
    if v.status = 8 then { v with st := { s' with queue := s'.queue.dropLast ++ (s'.queue.getLast?.map (fun e => { e with alt := 0x0A })).toList } }
    else { v with status := if own ≠ 0 then own else 0x0A }
  else if ws.isEmpty ∧ v.status ≠ 8 then v
  else if !s'.queueRoom r.t 1 then s.queueFull r
  else
    let s' := (s'.relayEvery r).answerLater r (.relayAll own r.ty r.f ws [])
    { v with st := s'.st.relayAllDone, status := 8 }

/-! ## Managers on the bus -/

/-- Step 3 (R50, R60, R49, R186): the code, and the cause logged if it has one. -/
def step3 (r : Req) (all : Bool) : Option (Nat × Option Nat) :=
  let w := r.f.wrk.toNat
  if all ∧ (!carried r.ty ∨ (w ≠ 0 ∧ kickType r.ty)) then some (2, some 9)
  else if r.ty = 0xF then some (2, some 3)
  else if bitAt r.f.ten.toNat 7 ∨ (objectless r.ty ∧ (r.idx ≠ 0 ∨ r.sub ≠ 0)) then some (2, some 4)
  else if w ≠ 0 ∧ (kickType r.ty ∨ r.ty = 0xA ∨ r.ty = 0xD) then some (2, none)
  else if w = 255 ∧ !carried r.ty then some (2, none)
  else none

/-- A frame whose CRC is right: step 3 on. -/
def State.serveFrame (s : State) (r : Req) (late : Nat) : Verdict :=
  let all := r.f.mgr == 0x3F#8
  let w := r.f.wrk.toNat
  match step3 r all with
  | some (c, cause) => ((cause.map (fun k => s.reqViolation r k 10000)).getD s).refuse c
  | none =>
    if w = 0 then s.serveHere r late
    else if w ≠ 255 then s.serveWorker r
    else if all then s.serveOwnAndAll r
    else s.serveAll r

/-- LAST_BROADCAST (R63). -/
def State.lbRecord (s : State) (r : Req) (status refused : Nat) (full : Bool) : State :=
  let s := (s.setN 0x1108 1 (if full then 0xF0 + r.f.seq.toNat else r.echo)).setN 0x1108 2 status
  ((s.setN 0x1108 3 r.idx).setN 0x1108 4 r.sub).setN 0x1108 5 refused

/-- The outcome of a broadcast at its settle edge. -/
def State.lbOutcome (s : State) (r : Req) (v : Verdict) : State :=
  s.lbRecord r (v.lb.getD v.status) 0 v.full

/-- A frame passes the CRC check (R69, R73, R471). -/
def State.crcOk (s : State) (host : Bool) : State :=
  let s := s.count 0x1102 1
  let s := { s with link := { s.link with crcRun := 0 } }
  if host then { s with ev := { s.ev with lastOk := s.tbc, hostArmed := s.getN 0x1440 1 != 0 } } else s

/-- A frame fails the CRC check (R71, R73). -/
def State.crcFail (s : State) (r : Req) : State :=
  let s := (s.count 0x1102 2).reqViolation r 6 10000
  let n := s.link.crcRun + 1
  let s := { s with link := { s.link with crcRun := n } }
  if n < 16 then s else ({ s with link := { s.link with storm := true } }).count 0x1102 4

/-- A response as it travels: bytes 1 to the end of its CRC (chapter 2, Response frame). -/
def respBytes (q : Resp) : List Byte :=
  let b := [BitVec.ofNat 8 q.status, BitVec.ofNat 8 q.echo] ++ toBE 2 q.payload.length ++ q.payload
  b ++ toBE 4 (crc32c b)

/-- The last response edge F (R42). -/
def Wave.f (w : Wave) : Nat := w.e + w.t + 8 * w.bytes.length
/-- The edge after whose falling edge DZ_SDO is released and DZ_DE goes low (R43). -/
def Wave.stop (w : Wave) : Nat := min w.f (w.cut.getD w.f)
/-- DZ_DE from the falling edge after edge `k` to the next (R43): the same in every mode (R35). -/
def Wave.de (w : Wave) (k : Nat) : Bool := decide (w.e + w.t - 2 ≤ k) && decide (k < w.stop)
/-- DZ_SDO from the falling edge after edge `k` to the next (R43): `none` while it is not driven. -/
def Wave.sdo (w : Wave) (k : Nat) : Option Bool :=
  if w.stop ≤ k then none
  else if w.e + w.t ≤ k then
    let i := k - (w.e + w.t)
    some (bitAt (byteAt w.bytes (i / 8)) (7 - i % 8))
  else if w.tia485 ∧ w.e + w.t - 2 ≤ k then some true
  else none

/-- A response is driven on the pins of a manager; a worker's port takes it from the strobe (R168). -/
def State.drive (s : State) (q : Resp) (e t : Nat) (cut : Option Nat) : State :=
  let w : Wave := { e := e, t := t, bytes := [0x7E#8] ++ respBytes { q with full := true }, cut := cut, tia485 := s.straps.linkmode == 2#2 }
  { s with link := { s.link with resp := some q, wave := if s.mgr then some w else s.link.wave } }

/-- The response goes out after `t` turnaround edges, and its settle edges follow; DZ_SEL rises early at edge `edge` of
the frame, whose last request edge is `e` (R42–R45, cause 0x08). In the CRC-storm state nothing is logged beside cause 0x0D
(R72). -/
def respond (r : Req) (v : Verdict) (e t gap : Nat) (edge : Option Nat) : State :=
  let m := 72 + 8 * v.payload.length
  let echo := if v.full then 0xF0 + r.f.seq.toNat else v.echo.getD r.echo
  let resp := fun full => ({ status := v.status, echo := echo, payload := v.payload, full := full } : Resp)
  match edge with
  | some k =>
    let s := v.st.clock (k - e)
    if k ≤ e + t + m + 12 then
      let cut := decide (k < e + t + m)
      let s := s.drive (resp (!cut)) e t (if cut then some k else none)
      (v.cut (if s.link.storm then s else s.reqViolation r 8 10000)).clock gap
    else (v.commit (s.drive (resp true) e t none)).clock gap
  | none =>
    let s := v.st.clock (t + m + 12)
    (v.commit (s.drive (resp true) e t none)).clock gap

/-- A broadcast's 28 edges after the CRC (R61): `done` is what the 28th commits. With fewer the control-plane effects are not
committed, and cause 0x0A is logged, but for a device in the CRC-storm state (R71, R72). -/
def endBroadcast (r : Req) (s : State) (e gap : Nat) (edge : Option Nat) (done : State → State) : State :=
  match edge with
  | some k =>
    let s := s.clock (k - e)
    (if e + 28 < k then done s else if s.link.storm then s else (s.reqViolation r 0x0A 10000).lbRecord r 2 0 false).clock gap
  | none => (done (s.clock 28)).clock gap

/-- A frame that arrives while the device is in the CRC-storm state (R72, R73): 0x10 on the link, and in LAST_BROADCAST for a
broadcast in the sense of R59. -/
def State.stormVerdict (s : State) (r : Req) (bcast : Bool) : Verdict :=
  let v := (s.reqViolation r 0x0D 10000).refuse 0x10
  if bcast then { v with commit := fun s => s.lbRecord r 0x10 0 false } else v

/-- A frame on the Dygazu pins of a manager (R41–R44, R59, R71–R73). `edge` is the edge at which DZ_SEL is sampled high
before the frame's end, if it is. A violation is stamped on the edge that shows it: cause 0x02 on edge 16, 0x07 on the edge
that samples DZ_SEL high. A rise by edge 112 of a frame that is too long counts as cause 0x07 alone, and after edge 112 the
rest of a broadcast that is too long is ignored (log entry 83). -/
def State.serve (s : State) (ty : Nat) (f : Frame) (late : Nat) (edge : Option Nat) : State :=
  if s.power.held ∨ !s.mgr then s else
  let s := s.selHigh
  let n := f.len.toNat
  let long := decide (4096 < n)
  let r : Req := { ty := ty, f := { f with payload := padTo n f.payload } }
  let e := if long then 112 else 112 + 8 * n
  let m := f.mgr.toNat
  let all := m == 0x3F
  let total := edge.getD e + f.gap
  let silent := s.clock total
  let early := match edge with
    | some k => decide (k ≤ e)
    | none => false
  let k := edge.getD 10000
  if s.straps.linkmode = 3#2 ∨ k ≤ 16 then silent
  else if 32 ≤ m ∧ !all then ((s.clock 16).reqViolation r 2 k).clock (total - 16)
  else if !all ∧ m ≠ s.straps.addr.toNat then silent
  else if early then (if s.link.storm then silent else ((s.clock k).reqViolation r 7 k).clock f.gap)
  else
    let s := s.clock e
    let t := s.getN 0x1101 1
    if s.link.storm then
      let v := s.stormVerdict r (all || f.wrk == 0xFF#8)
      if all then endBroadcast r (v.commit v.st) e f.gap edge id else respond r v e t f.gap edge
    else if long then
      let s := s.reqViolation r 5 10000
      if all then s.clock ((edge.getD (e + 28)) - e + f.gap) else respond r (s.refuse 2) e t f.gap edge
    else if f.crc.toNat ≠ crc32c (frameBody ty r.f) then
      let s := s.crcFail r
      if all then endBroadcast r s e f.gap edge id else respond r (s.refuse 1) e t f.gap edge
    else
      let r := { r with bcast := all }
      let v := (s.crcOk true).serveFrame r late
      if all then endBroadcast r v.st e f.gap edge (fun s => (v.commit s).lbOutcome r v)
      else
        let v := if f.wrk == 0xFF#8 then { v with commit := fun s => (v.commit s).lbOutcome r v } else v
        respond r v e t f.gap edge

/-! ## The rows -/

/-- A frame row on the pins. -/
def frameRow (ty : Nat) (f : Frame) (s : State) : Host.Outcome State Fault Refusal := .next (s.serve ty f 0 none)

def execNopPoll (f : Frame) (s : State) : Host.Outcome State Fault Refusal := frameRow 0 f s
def execRead (f : Frame) (s : State) : Host.Outcome State Fault Refusal := frameRow 1 f s
def execWrite (f : Frame) (s : State) : Host.Outcome State Fault Refusal := frameRow 2 f s
def execBlockRead (f : Frame) (s : State) : Host.Outcome State Fault Refusal := frameRow 3 f s
def execBlockWrite (f : Frame) (s : State) : Host.Outcome State Fault Refusal := frameRow 4 f s
def execPrepare (f : Frame) (s : State) : Host.Outcome State Fault Refusal := frameRow 5 f s
def execKickoff (f : Frame) (s : State) : Host.Outcome State Fault Refusal := frameRow 6 f s
def execWhistle (f : Frame) (s : State) : Host.Outcome State Fault Refusal := frameRow 7 f s
def execSessionOpen (f : Frame) (s : State) : Host.Outcome State Fault Refusal := frameRow 8 f s
def execSessionClose (f : Frame) (s : State) : Host.Outcome State Fault Refusal := frameRow 9 f s
def execRollCall (f : Frame) (s : State) : Host.Outcome State Fault Refusal := frameRow 0xA f s
def execLogRead (f : Frame) (s : State) : Host.Outcome State Fault Refusal := frameRow 0xB f s
/-- EVENT_ACK; `late` marks the bits whose setting is seen on its edge E or later (R459). -/
def execEventAck (f : Frame) (late : BitVec 32) (s : State) : Host.Outcome State Fault Refusal :=
  .next (s.serve 0xC f late.toNat none)
def execSave (f : Frame) (s : State) : Host.Outcome State Fault Refusal := frameRow 0xD f s
def execDiscard (f : Frame) (s : State) : Host.Outcome State Fault Refusal := frameRow 0xE f s
def execReservedTypeFrame (f : Frame) (s : State) : Host.Outcome State Fault Refusal := frameRow 0xF f s

/-- DZ_SEL_EARLY_RISE (R43, R45, R71): DZ_SEL is sampled high at edge `edge` of a frame. -/
def execDzSelEarlyRise (ty : Fin 16) (f : Frame) (edge : Nat) (s : State) : Host.Outcome State Fault Refusal :=
  .next (s.serve ty f 0 (some edge))

/-- BAD_SYNC_FRAME (R71, cause 0x01): every manager on the bus logs it on edge 8, and the other edges pass. -/
def execBadSyncFrame (first8 : BitVec 8) (edges : Nat) (s : State) : Host.Outcome State Fault Refusal :=
  if s.power.held ∨ !s.mgr ∨ first8 = 0x7E#8 then .next s
  else
    let s := s.selHigh
    .next (if edges < 8 ∨ s.straps.linkmode = 3#2 then s.clock edges
           else ((s.clock 8).linkViolation 1 0 0 0 0 0).clock (edges - 8))

/-- FRAME_OPEN_WATCHDOG (R74, R471, cause 0x0E): DZ_SEL has been low for 1 s of TBC; `got` are the bytes received, SYNC first.
The event is raised and counted once for each frame, whomever it addresses; the violation is logged by the device addressed,
or by every device while the address has not been received. -/
def execFrameOpenWatchdog (got : List Byte) (at_ : Nat) (s : State) : Host.Outcome State Fault Refusal :=
  let m := byteAt got 1
  if !s.power.run ∨ !s.mgr ∨ s.link.openSeen then .next s
  else
    let s := ((s.atTime at_).event 3).count 0x1440 3
    let s := { s with link := { s.link with openSeen := true } }
    .next (if 1 < got.length ∧ (s.link.storm ∨ (m ≠ 0x3F ∧ m ≠ s.straps.addr.toNat)) then s
           else s.linkViolation 0x0E (byteAt got 1) (byteAt got 2) (byteAt got 3) (byteAt got 7) (beAt (padTo 6 got) 4 2))

/-! ## Rows that are a WRITE of one object -/


/-- A WRITE with the payload as the frame carries it. -/
def writeRow (f : Frame) (idx sub : Nat) (s : State) : Host.Outcome State Fault Refusal := frameRow 2 (atObject f idx sub) s

/-- A WRITE of a one-byte value that the row names. -/
def writeRowVal (f : Frame) (idx sub v : Nat) (s : State) : Host.Outcome State Fault Refusal :=
  frameRow 2 { atObject f idx sub with len := 1#16, payload := [BitVec.ofNat 8 v] } s

def execKoAbandon (f : Frame) (s : State) : Host.Outcome State Fault Refusal := writeRow f 0x1F00 5 s
def execKoEpochWrite (f : Frame) (s : State) : Host.Outcome State Fault Refusal := writeRow f 0x1F00 1 s
def execWhEpochWrite (f : Frame) (s : State) : Host.Outcome State Fault Refusal := writeRow f 0x1F08 1 s
def execStSaveNow (f : Frame) (s : State) : Host.Outcome State Fault Refusal := writeRow f 0x1510 0x0C s
def execStEraseImage (f : Frame) (s : State) : Host.Outcome State Fault Refusal := writeRow f 0x1510 0x0B s
def execSubActionAdd (f : Frame) (s : State) : Host.Outcome State Fault Refusal := writeRowVal f 0x1220 3 1 s
def execSubActionRemove (f : Frame) (s : State) : Host.Outcome State Fault Refusal := writeRowVal f 0x1220 3 2 s
def execTnCodeHi (t : Fin 128) (f : Frame) (s : State) : Host.Outcome State Fault Refusal := writeRow f (0x1380 + t) 2 s
def execTnCodeLo (t : Fin 128) (f : Frame) (s : State) : Host.Outcome State Fault Refusal := writeRow f (0x1380 + t) 3 s
def execTnEnableWrite (t : Fin 128) (f : Frame) (s : State) : Host.Outcome State Fault Refusal := writeRow f (0x1380 + t) 1 s
def execPwStandby (f : Frame) (s : State) : Host.Outcome State Fault Refusal := writeRow f 0x1500 3 s
def execPwWake (f : Frame) (s : State) : Host.Outcome State Fault Refusal := writeRow f 0x1500 4 s
def execPwDpReset (f : Frame) (s : State) : Host.Outcome State Fault Refusal := writeRow f 0x1500 5 s
def execCxControlStart (x : Fin 4) (f : Frame) (s : State) : Host.Outcome State Fault Refusal := writeRowVal f (0x2B10 + x) 1 1 s
def execCxControlHalt (x : Fin 4) (f : Frame) (s : State) : Host.Outcome State Fault Refusal := writeRowVal f (0x2B10 + x) 1 2 s
def execCxControlStep (x : Fin 4) (f : Frame) (s : State) : Host.Outcome State Fault Refusal := writeRowVal f (0x2B10 + x) 1 3 s
def execMtRunNow (f : Frame) (s : State) : Host.Outcome State Fault Refusal := writeRow f 0x2904 5 s
def execMrProgram (f : Frame) (s : State) : Host.Outcome State Fault Refusal := writeRow f 0x2906 1 s
def execLwNeighbourTest (f : Frame) (s : State) : Host.Outcome State Fault Refusal := writeRow f 0x2860 9 s
def execArPlayStart (r : Fin 16) (f : Frame) (s : State) : Host.Outcome State Fault Refusal := writeRowVal f (0x2748 + r) 0x0B 1 s
def execArPlayStop (r : Fin 16) (f : Frame) (s : State) : Host.Outcome State Fault Refusal := writeRowVal f (0x2748 + r) 0x0B 0 s
def execOutForceSafe (n : Fin 48) (f : Frame) (s : State) : Host.Outcome State Fault Refusal := writeRow f (0x2200 + n) 0x13 s
def execWdHostSWrite (f : Frame) (s : State) : Host.Outcome State Fault Refusal := writeRow f 0x1440 1 s

end Sys2Proof.Machine
end

