-- ==== Sys2Proof/Machine/CuePort.lean ====
section
/-! DEFINITION. The cue port (R431–R437, R442): what a DRD, DWR, PREP, KICK, WHIS or PLAY comes to when its request
completes. -/
namespace Sys2Proof.Machine

/-- The context's request ends with a status: cs, and the next instruction (R425, R432). -/
def State.portEnd (s : State) (x status : Nat) : State :=
  s.cueDone x { s.ctx x with cs := status, port := none }

/-- Whether a host write to an object is still queued (R434). -/
def State.hostWriteQueued (s : State) (idx sub : Nat) : Bool :=
  s.queue.any (fun e => e.res.isNone && (match e.job with
    | .write i k _ => i == idx && k == sub
    | .blockWrite i k _ _ _ => i == idx && k == sub
    | _ => false))

/-- A signed type (R433). -/
def signedTy (ty : Ty) : Bool := ty == .i16 || ty == .i32

/-- The register value of an object: sign-extended for signed types (R433). -/
def regValue (ty : Ty) (v : Nat) : Word := if signedTy ty then BitVec.ofInt 64 (toInt (8 * ty.size) v) else BitVec.ofNat 64 v

/-- Whether a register holds a value of a type (R433). -/
def fitsTy (ty : Ty) (w : Word) : Bool :=
  if signedTy ty then regValue ty (w.toNat % 2 ^ (8 * ty.size)) == w else decide (w.toNat < 2 ^ (8 * ty.size))

/-- The object of a request, or the code 0x03, 0x04 or 0x05 (R432). -/
def State.portObj (s : State) (a : Word) : Nat ⊕ Obj :=
  match cueTarget a with
  | none => .inl 3
  | some (idx, sub) =>
    if sub = 0xFF ∧ (findRow s.mgr idx).isSome then .inl 5 else s.findOr idx sub

/-- DRD. -/
def State.portRead (s : State) (x t rd : Nat) (o : Obj) : State :=
  if !s.admits t o false then s.portEnd x 6
  else if o.d.ty.isDom || o.d.ty == .str then s.portEnd x 5
  else
    let v := (s.viewCue t o.idx o.sub).nat
    let s := if o.d.acc == .rc then s.rcClear o.idx o.sub v else s
    let s := s.setCtx x ((s.ctx x).setReg rd (regValue o.d.ty v))
    s.portEnd x 0

/-- A request frame that stands for a DWR of context `x`. -/
def portReq (x t : Nat) (o : Obj) (payload : List Byte) : Req :=
  { ty := 2, cue := some x,
    f := { mgr := 0#8, wrk := 0#8, seq := 0#4, index := BitVec.ofNat 16 o.idx, sub := BitVec.ofNat 8 o.sub, ten := BitVec.ofNat 8 t,
           len := BitVec.ofNat 16 payload.length, payload := payload, crc := 0#32, inTime := true, gap := 0 } }

/-- DWR to an object: the effects of a WRITE, at once (R431, R432). A request that the bridge carries out on its own is
waited for. -/
def State.portWrite (s : State) (x t : Nat) (o : Obj) (w : Word) : State :=
  if !s.admits t o true then s.portEnd x 6
  else if o.d.ty.isDom || o.d.ty == .str then s.portEnd x 5
  else
    let payload := toBE o.d.ty.size w.toNat
    let c := s.writeCode t true o payload
    if c ≠ 0 ∧ c ≠ 7 then s.portEnd x c
    else if !fitsTy o.d.ty w || c == 7 then s.portEnd x 7
    else
      let v := payloadVal o payload
      if o.d.acc == .rs then
        if s.stageFull t o.idx o.sub then (s.count 0x1F01 4).portEnd x 0x0E else (s.stageWrite t o v).portEnd x 0
      else match s.doSpecialWrite (portReq x t o payload) o v.nat with
        | some d => if d.status = 8 then d.st else (d.commit d.st).portEnd x d.status
        | none =>
          if dataPlane o.idx then let (s, c) := s.applyData o v; s.portEnd x c
          else (s.applyCtl t o v).portEnd x 0

/-- DRD and DWR wait for a host write queued to their object (R434). -/
def State.portAccess (s : State) (x t : Nat) (q : PortReq) (a w : Word) (write : Bool) : State :=
  match s.portObj a with
  | .inl c => s.portEnd x c
  | .inr o =>
    if s.hostWriteQueued o.idx o.sub then s
    else if write then s.portWrite x t o w
    else s.portRead x t q.rd o

/-- The epoch of KICK and WHIS: c[ra], or with 0 the tenant's standing epoch (R435). -/
def portEpoch (a : Word) (standing : Nat) : Option Nat :=
  if a.toNat ≠ 0 then some a.toNat else if standing ≠ 0 then some standing else none

/-- PREP, KICK and WHIS (R435). -/
def State.portPrep (s : State) (x t : Nat) : State :=
  if !s.kickRight t then s.portEnd x 6
  else if !s.koAccepts false then s.portEnd x 0x0B
  else (s.koPrepare t false).portEnd x 0

def State.portKick (s : State) (x t : Nat) (a : Word) : State :=
  if !s.kickRight t then s.portEnd x 6
  else if !s.koAccepts true then s.portEnd x 0x0B
  else
    let ep := portEpoch a (s.tenant t).koEpoch
    let s := if a.toNat = 0 then s.setTenant t { s.tenant t with koEpoch := 0 } else s
    (s.koKickoff t ep false).portEnd x 0

def State.portWhis (s : State) (x t : Nat) (a : Word) : State :=
  if !s.kickRight t then s.portEnd x 6
  else if !s.whAccepts then s.portEnd x 0x0B
  else
    let ep := portEpoch a (s.tenant t).whEpoch
    let s := if a.toNat = 0 then s.setTenant t { s.tenant t with whEpoch := 0 } else s
    ((s.whEnter t ep false).whTake t).portEnd x 0

/-- PLAY (R442): a DWR of AR_PLAY. -/
def State.portPlay (s : State) (x t : Nat) (q : PortReq) : State :=
  if 15 < q.a.toNat then s.portEnd x 7
  else s.portAccess x t q (BitVec.ofNat 64 ((0x2748 + q.a.toNat) * 256 + 0x0B)) q.b true

/-- CUE_PORT_COMPLETE: the request of a context completes. -/
def execCuePortComplete (x : Fin 4) (at_ : Nat) (s : State) : Host.Outcome State Fault Refusal :=
  if !s.power.run ∨ s.queue.any (fun e => e.cue == some x.val) then .next s else
  match (s.ctx x).port with
  | none => .next s
  | some q =>
    let s := s.atTime at_
    let t := s.ctxTen x
    .next (if q.op = 0x48 then s.portAccess x t q q.a q.b false
      else if q.op = 0x49 then s.portAccess x t q q.a q.b true
      else if q.op = 0x4B then s.portPrep x t
      else if q.op = 0x4C then s.portKick x t q.a
      else if q.op = 0x4D then s.portWhis x t q.a
      else s.portPlay x t q)

end Sys2Proof.Machine
end

