-- ==== Sys2Proof/Machine/Relay.lean ====
section
/-! DEFINITION. Frames that reach a worker (R168–R170), the packet layer of a span port (R149–R152, R182), the responses that
come up the tree (R62, R169), subscriptions and mirrors (R172–R176), and tunnels at a virtual input (R177–R181). -/
namespace Sys2Proof.Machine

/-! ## Frames on a worker -/

/-- The response captured goes upward; one of 0x08 waits for its result (R169). -/
def State.forwardUp (s : State) (r : Req) : State :=
  match s.link.resp with
  | none => s
  | some q =>
    if q.status = 8 ∧ q.echo / 16 ≠ 15 ∧ r.ty ≠ 0 then { s with spans := { s.spans with held := s.spans.held ++ [(r.t, q.echo)] } }
    else s.sendUp 0 (respBytes q)

/-- A frame delivered as strobe edges: 255 turnaround edges, the response, 12 settle edges (R168). The worker's control plane
obeys the rules of the link (R28). -/
def State.strobeFrame (s : State) (r : Req) (host : Bool) (gap : Nat) : State :=
  let e := 112 + 8 * r.len
  let s := s.clock e
  if s.link.storm then respond r (s.stormVerdict r r.bcast) e 255 gap none
  else if r.crc ≠ crc32c (frameBody r.ty r.f) then respond r ((s.crcFail r).refuse 1) e 255 gap none
  else
    let s := s.crcOk host
    let v := if [0xA, 0xD, 0xF].contains r.ty then s.refuse 2 else s.serveHere r 0
    let v := if r.bcast then { v with commit := fun s => (v.commit s).lbOutcome r v } else v
    respond r v e 255 gap none

/-- Whether this worker's upstream port delivers frames to its control plane. -/
def State.strobed (s : State) : Bool := !s.power.held && s.straps.worker && s.power.run && s.upPort.isSome

/-- RELAYED_FRAME (R168). -/
def execRelayedFrame (ty : Fin 16) (f : Frame) (s : State) : Host.Outcome State Fault Refusal :=
  if !s.strobed ∨ 4096 < f.len.toNat then .next s else
  let f := { f with payload := padTo f.len.toNat f.payload }
  let r : Req := { ty := ty, f := f, bcast := f.mgr == 0x3F#8 || f.wrk == 0xFF#8 }
  .next ((s.strobeFrame r true f.gap).forwardUp r)

/-- AGENT_FRAME (R170): a POLL of the upstream port's own, at least 2 edges after the frame select went high. Its result goes
upward if it answers a relayed request. -/
def execAgentFrame (ten : Fin 128) (seq : BitVec 4) (s : State) : Host.Outcome State Fault Refusal :=
  if !s.strobed then .next s else
  let f : Frame := { mgr := BitVec.ofNat 8 s.spans.bus, wrk := BitVec.ofNat 8 s.ownAddr, seq := seq, index := 0#16, sub := 0#8,
                     ten := BitVec.ofNat 8 ten, len := 0#16, payload := [], crc := 0#32, inTime := false, gap := 0 }
  let r : Req := { ty := 0, f := { f with crc := BitVec.ofNat 32 (crc32c (frameBody 0 f)) } }
  let s := (s.clock 2).strobeFrame r false 0
  match s.link.resp with
  | none => .next s
  | some q =>
    if q.status = 8 ∨ !s.spans.held.contains (ten.val, q.echo) then .next s
    else .next ({ s with spans := { s.spans with held := s.spans.held.erase (ten.val, q.echo) } }.sendUp 0 (respBytes q))

/-! ## Responses that reach the manager -/

/-- The relayed request that a response of worker `w` answers (R169). A response that was not accepted matches by sequence. -/
def relayMatch (w echo : Nat) (e : BEntry) : Bool :=
  e.res.isNone && (match e.job with
    | .relay v _ _ => v == w && (e.echo == echo || (echo / 16 == 15 && e.echo % 16 == echo % 16))
    | _ => false)

/-- A request for all workers that waits for worker `w` (R62). -/
def allMatch (w echo : Nat) (e : BEntry) : Bool :=
  e.res.isNone && (match e.job with
    | .relayAll _ _ _ ws _ => ws.contains w && (e.echo == echo || (echo / 16 == 15 && e.echo % 16 == echo % 16))
    | _ => false)

/-- Worker `w`'s answer is entered in a request for all workers. -/
def allAnswer (w status : Nat) (e : BEntry) : BEntry :=
  match e.job with
  | .relayAll own ty f ws outs => { e with job := .relayAll own ty f (ws.filter (fun v => v != w)) (outs ++ [(w, status)]) }
  | _ => e

/-- Worker `w`'s part in the Kickoff, or the Whistle, has ended. -/
def State.armEnd (s : State) (w : Nat) (kick : Bool) : State :=
  if kick then
    match s.kick with
    | some k => ({ s with kick := some { k with armed := k.armed.filter (fun a => a != w) } }).koFinish
    | none => s
  else
    match s.whis with
    | some h => ({ s with whis := some { h with armed := h.armed.filter (fun a => a != w) } }).whFinish
    | none => s

/-- A response of worker `w` reaches the manager. -/
def State.response (s : State) (w : Nat) (msg : List Byte) : State :=
  let status := byteAt msg 0
  let echo := byteAt msg 1
  let payload := (msg.drop 4).take (beAt msg 2 2)
  match s.queue.find? (relayMatch w echo) with
  | some e => s.finishEntry (s.queue.findIdx (relayMatch w echo)) e { status := status, payload := payload }
  | none =>
    match s.queue.find? (allMatch w echo) with
    | some e => ({ s with queue := s.queue.set (s.queue.findIdx (allMatch w echo)) (allAnswer w status e) }).relayAllDone
    | none => if echo / 16 = 6 then s.armEnd w true else if echo / 16 = 7 then s.armEnd w false else s

/-! ## Packets (R149–R152, R182) -/

/-- A CTRL message: a response goes upward to the manager; a frame goes down to the worker it names, or to all. -/
def State.ctrlMessage (s : State) (p from_ : Nat) (msg : List Byte) : State :=
  if s.upPort = some p then
    let w := byteAt msg 1
    if w = 255 then s.downPorts.foldl (fun s q => s.chanSend q 0 msg) s
    else if w = s.ownAddr then s
    else s.sendDown w 0 msg
  else if s.mgr then s.response from_ msg
  else s.sendUp 0 msg

/-- Whether a packet may come in the port's present state: before HELLO has settled what the link is only MEMB, on a BLOCKED link
only a HELLO that makes it a candidate (R140, R182; log entry 45). -/
def State.packetAllowed (s : State) (p : Nat) (k : SpanPkt) : Bool :=
  let st := s.getN (0x2C00 + p) 2
  let ch := k.ch.toNat
  if st = 5 then ch == 1 && byteAt k.data 0 == 1 && s.helloOpen p (byteAt k.data 2) (byteAt k.data 14)
  else st != 2 || ch == 1

/-- The violation a packet brings about, if any: 0x25, 0x28, 0x26, 0x23, 0x22 or 0x24. -/
def State.packetFault (s : State) (p : Nat) (k : SpanPkt) : Option Nat :=
  let x := s.port p
  let ch := k.ch.toNat
  let c := x.chan ch
  if !k.framed ∨ k.len ≠ k.data.length ∨ k.len = 0 ∨ 512 < k.len then some 0x25
  else if chanBudget ch = 0 ∨ !s.packetAllowed p k then some 0x28
  else if 8 ≤ ch ∧ (tabFind x.inn (ch - 8)).isNone then some 0x26
  else if chanBudget ch < (c.got + 65536 - c.gave) % 65536 + credits k.len then some 0x23
  else if k.crc.toNat ≠ crc32c k.data then some 0x22
  else if reliable ch ∧ k.seq.toNat ≠ c.expect_ then some 0x24
  else none

/-- An accepted packet: its credits are received, and freed once its message is complete, which is when MORE is clear; a tunnel frees
them with each packet (log entry 86). -/
def State.packetTake (s : State) (p : Nat) (k : SpanPkt) : State :=
  let ch := k.ch.toNat
  let x := s.port p
  let c := x.chan ch
  let msg := c.part_ ++ k.data
  let n := credits k.len
  let got := (c.got + n) % 65536
  let whole := !(reliable ch) || !k.more
  let c := { c with got := got, gave := if whole then got else c.gave,
                    expect_ := if reliable ch then (c.expect_ + 1) % 256 else c.expect_, part_ := if whole then [] else msg }
  let s := (s.setPort p (x.setChan ch c)).sendCredit p ch
  if ch = 0 ∧ !k.more then s.ctrlMessage p k.from_ msg else s

/-- Packets of a virtual input's tunnel are lost (R180): the frame they belong to is not completed, and is counted once. -/
def State.tunnelLost (s : State) (v k : Nat) : State :=
  let n := 0x20 + v
  let s := s.addN (0x2140 + v) 0x11 k
  if k = 0 ∨ (s.input n).spoiled ∨ s.getN (0x2140 + v) 3 = 2 ∨ !s.writable n then s
  else ((s.abandonFrame n).setInput n { (s.abandonFrame n).input n with spoiled := true }).inDropped n

/-- A tunnel packet that is discarded is not sent again: its credits are freed, so that the books stay whole (R150), and the frame
of the virtual input it was for is lost (R180, R182). -/
def State.tunnelDiscard (s : State) (p : Nat) (k : SpanPkt) : State :=
  let ch := k.ch.toNat
  let x := s.port p
  let c := x.chan ch
  let n := credits k.len
  if ch < 8 ∨ chanBudget ch = 0 ∨ 512 < k.len ∨ (chanBudget ch < (c.got + 65536 - c.gave) % 65536 + n) then s else
  let s := (s.setPort p (x.setChan ch { c with got := (c.got + n) % 65536, gave := (c.gave + n) % 65536 })).sendCredit p ch
  match tabFind x.inn (ch - 8) with
  | some (some v) => s.tunnelLost v 1
  | _ => s

/-- SPAN_PACKET (R149–R152, R182). -/
def execSpanPacket (p : Fin 4) (k : SpanPkt) (at_ : Nat) (s : State) : Host.Outcome State Fault Refusal :=
  if !s.power.run ∨ (s.port p).lanes = 0 then .next s else
  let s := s.atTime at_
  match s.packetFault p k with
  | none => .next (s.packetTake p k)
  | some c =>
    let s := s.spanViol c p k.ch.toNat 0
    let s := if c = 0x22 then s.count (0x2C00 + p) 0x0A else s
    .next (if c = 0x24 then s.sendCredit p k.ch.toNat
      else if c = 0x22 ∨ c = 0x25 ∨ c = 0x26 then s.tunnelDiscard p k else s)

/-- The manager's SNOOP of a mirror entry (R174). -/
def State.snoopSend (s : State) (m : Mirror) : State :=
  let tag := s.spans.tag
  let mark := fun (x : Mirror) => x.w == m.w && x.ten == m.ten && x.idx == m.idx && x.sub == m.sub
  let s := { s with spans := { s.spans with tag := (tag + 1) % 256, mirrors := mapIf mark (fun x => { x with snooped := s.tbc }) s.spans.mirrors } }
  s.sendDown m.w 2 ([0x17#8] ++ keyBytes m.w m.ten m.idx m.sub ++ [BitVec.ofNat 8 tag])

/-- RELIABLE_RESEND_TIMEOUT (R152): 20 µs without progress; the unacknowledged packets go out again from the oldest. A retransmission
on MIRR makes the manager snoop (R174). -/
def execReliableResendTimeout (p : Fin 4) (ch : Fin 3) (at_ : Nat) (s : State) : Host.Outcome State Fault Refusal :=
  let x := s.port p
  let c := x.chan ch
  if !s.power.run ∨ x.lanes = 0 ∨ c.unacked.isEmpty then .next s else
  let s := (s.atTime at_).atTime (c.progress + 540)
  let s := s.setPort p ((x.setChan ch { c with progress := s.tbc }).emitPackets ch c.unacked)
  .next (if ch.val = 2 ∧ s.mgr then s.spans.mirrors.foldl State.snoopSend s else s)

/-! ## Subscriptions and mirrors (R172–R176) -/

def keyOf (k : SubKey) : List Byte := keyBytes k.w.toNat k.ten.toNat k.idx.toNat k.sub.toNat
def isSubOf (k : SubKey) (u : Sub) : Bool := u.ten == k.ten.toNat && u.idx == k.idx.toNat && u.sub == k.sub.toNat
def isMirrorOf (k : SubKey) (m : Mirror) : Bool :=
  m.w == k.w.toNat && m.ten == k.ten.toNat && m.idx == k.idx.toNat && m.sub == k.sub.toNat
def isEvictedOf (k : SubKey) (e : Evicted) : Bool := e.ten == k.ten.toNat && e.idx == k.idx.toNat && e.sub == k.sub.toNat

/-- A MIRR message from above: it is for this worker, or goes down to the one it names; from elsewhere it is not allowed. -/
def State.fromAbove (s : State) (p w code : Nat) (msg : List Byte) (here : State → State) : State :=
  if s.upPort ≠ some p then s.spanViol 0x28 p 2 code
  else if w = s.ownAddr then here s
  else s.sendDown w 2 msg

/-- A MIRR message from below: a worker passes it upward, the manager takes it. -/
def State.fromBelow (s : State) (p code : Nat) (msg : List Byte) (here : State → State) : State :=
  if s.getN (0x2C00 + p) 2 ≠ 3 then s.spanViol 0x28 p 2 code
  else if s.mgr then here s
  else s.sendUp 2 msg

/-- A worker's answer to SUB_ADD (R172). -/
def State.subCode (s : State) (k : SubKey) : Nat :=
  match s.findOr k.idx.toNat k.sub.toNat with
  | .inl c => c
  | .inr o =>
    if !s.granted k.ten.toNat o false then 6
    else if o.d.ty.isDom || o.d.ty == .str || decide (8 < o.d.ty.size) then 5
    else if decide (4096 ≤ s.spans.subs.length) && !s.spans.subs.any (isSubOf k) then 0x0E
    else 0

def State.subAdd (s : State) (k : SubKey) : State :=
  let c := s.subCode k
  let u : Sub := { ten := k.ten.toNat, idx := k.idx.toNat, sub := k.sub.toNat }
  let s := if c = 0 ∧ !s.spans.subs.any (isSubOf k) then { s with spans := { s.spans with subs := s.spans.subs ++ [u] } } else s
  s.sendUp 2 ([0x12#8] ++ keyOf k ++ [BitVec.ofNat 8 c])

def execSubAdd (p : Fin 4) (k : SubKey) (at_ : Nat) (s : State) : Host.Outcome State Fault Refusal :=
  if !s.power.run ∨ (s.port p).lanes = 0 then .next s else
  .next ((s.atTime at_).fromAbove p k.w.toNat 0x11 ([0x11#8] ++ keyOf k) (fun s => s.subAdd k))

/-- SUB_DEL (R175): the subscription is dropped, but for the one of EVENT_PENDING (R172), and answered 0x00. -/
def State.subDel (s : State) (k : SubKey) : State :=
  (s.dropSubs (isSubOf k) 1).sendUp 2 ([0x12#8] ++ keyOf k ++ [0#8])

def execSubDel (p : Fin 4) (k : SubKey) (at_ : Nat) (s : State) : Host.Outcome State Fault Refusal :=
  if !s.power.run ∨ (s.port p).lanes = 0 then .next s else
  .next ((s.atTime at_).fromAbove p k.w.toNat 0x13 ([0x13#8] ++ keyOf k) (fun s => s.subDel k))

/-- The subscription action of a tenant that a SUB_RSP answers. -/
def subActMatch (k : SubKey) (e : BEntry) : Bool :=
  e.res.isNone && e.ten == k.ten.toNat && (match e.job with
    | .subAct _ w i j => w == k.w.toNat && i == k.idx.toNat && j == k.sub.toNat
    | _ => false)

def isAddJob (e : BEntry) : Bool :=
  match e.job with
  | .subAct a _ _ _ => a
  | _ => false

/-- SUB_RSP at the manager (R172): the action completes, SUB_RESULT holds the answer, and an addition makes a mirror entry. -/
def State.subRsp (s : State) (k : SubKey) (status : Nat) : State :=
  match s.queue.find? (subActMatch k) with
  | none => s
  | some e =>
    let s := s.setTenant e.ten { s.tenant e.ten with subResult := status }
    let m : Mirror := { w := k.w.toNat, ten := k.ten.toNat, idx := k.idx.toNat, sub := k.sub.toNat, snooped := s.tbc }
    let s := if status = 0 ∧ isAddJob e ∧ !s.spans.mirrors.any (isMirrorOf k) then { s with spans := { s.spans with mirrors := s.spans.mirrors ++ [m] } } else s
    s.finishEntry (s.queue.findIdx (subActMatch k)) e { status := status, payload := [] }

def execSubRsp (p : Fin 4) (k : SubKey) (status : BitVec 8) (at_ : Nat) (s : State) : Host.Outcome State Fault Refusal :=
  if !s.power.run ∨ (s.port p).lanes = 0 then .next s else
  .next ((s.atTime at_).fromBelow p 0x12 ([0x12#8] ++ keyOf k ++ [status]) (fun s => s.subRsp k status.toNat))

/-- SUBSCRIPTION_PUSH (R173): a worker pushes the newest value of a changed object, at most once every 10 ms. -/
def execSubscriptionPush (ten : Fin 128) (idx : BitVec 16) (sub : BitVec 8) (at_ : Nat) (s : State) : Host.Outcome State Fault Refusal :=
  let mine := fun (u : Sub) => u.ten == ten.val && u.idx == idx.toNat && u.sub == sub.toNat
  if !s.power.run ∨ s.mgr ∨ s.memberState ≠ 3 then .next s else
  match s.spans.subs.find? mine with
  | none => .next s
  | some u =>
    let s := s.atTime at_
    let v := s.subValue u.ten u.idx u.sub
    if u.sent ∧ (v = u.val ∨ s.tbc < u.at_ + 10 * Config.ticksPerMs) then .next s else
    let s := { s with spans := { s.spans with subs := mapIf mine (fun (x : Sub) => { x with val := v, at_ := s.tbc, sent := true }) s.spans.subs } }
    .next (s.sendUp 2 ([0x14#8] ++ keyBytes s.ownAddr u.ten u.idx u.sub ++ toBE 8 s.tbc ++ [BitVec.ofNat 8 v.length] ++ v))

/-- WORKER_EVENT_MAP follows the mirrors of EVENT_PENDING (R461). -/
def State.workerMap (s : State) : State :=
  let ws := (s.spans.mirrors.filter (fun m => m.idx == 0x1400 && m.ten == 0 && ofBE m.val != 0)).map (·.w)
  (s.setB 0x1212 0 (bitMap 32 ws)).followWorkerMap

/-- A mirror entry takes a value. -/
def State.mirrorSet (s : State) (k : SubKey) (latch : Nat) (v : List Byte) : State :=
  let f := fun (m : Mirror) => { m with val := v, latch := latch, filled := true }
  ({ s with spans := { s.spans with mirrors := mapIf (isMirrorOf k) f s.spans.mirrors } }).workerMap

/-- The fields of PUSH, EVICT and SNOOP_RSP after the key. -/
def valueBytes (latch : Nat) (v : List Byte) : List Byte := toBE 8 latch ++ [BitVec.ofNat 8 v.length] ++ v

def execPush (p : Fin 4) (k : SubKey) (latch : BitVec 64) (val : List Byte) (at_ : Nat) (s : State) : Host.Outcome State Fault Refusal :=
  if !s.power.run ∨ (s.port p).lanes = 0 then .next s else
  .next ((s.atTime at_).fromBelow p 0x14 ([0x14#8] ++ keyOf k ++ valueBytes latch.toNat val) (fun s => s.mirrorSet k latch.toNat val))

/-- EVICT at the manager (R175, R176): the entry is discarded and EVICT_ACK sent. -/
def State.evictTake (s : State) (k : SubKey) : State :=
  let s := (s.count 0x1221 3)
  let s := ({ s with spans := { s.spans with mirrors := s.spans.mirrors.filter (fun m => !isMirrorOf k m) } }).workerMap
  s.sendDown k.w.toNat 2 ([0x16#8] ++ keyOf k)

def execEvict (p : Fin 4) (k : SubKey) (latch : BitVec 64) (val : List Byte) (reason : BitVec 8) (at_ : Nat) (s : State) :
    Host.Outcome State Fault Refusal :=
  if !s.power.run ∨ (s.port p).lanes = 0 then .next s else
  .next ((s.atTime at_).fromBelow p 0x15 ([0x15#8] ++ keyOf k ++ valueBytes latch.toNat val ++ [reason]) (fun s => s.evictTake k))

/-- EVICT_ACK at the worker (R175): the buffer entry frees, and a drop that waited for it follows. -/
def State.evictAck (s : State) (k : SubKey) : State :=
  let s := { s with spans := { s.spans with evicted := s.spans.evicted.filter (fun e => !isEvictedOf k e) } }
  match s.spans.subs.find? (·.drop_) with
  | some u => s.dropSub u 1
  | none => s

def execEvictAck (p : Fin 4) (k : SubKey) (at_ : Nat) (s : State) : Host.Outcome State Fault Refusal :=
  if !s.power.run ∨ (s.port p).lanes = 0 then .next s else
  .next ((s.atTime at_).fromAbove p k.w.toNat 0x16 ([0x16#8] ++ keyOf k) (fun s => s.evictAck k))

/-- MIRROR_SNOOP_TIMER (R174): the manager snoops every mirror entry that has not been snooped for 10 s. -/
def execMirrorSnoopTimer (at_ : Nat) (s : State) : Host.Outcome State Fault Refusal :=
  if !s.power.run ∨ !s.mgr then .next s else
  let s := s.atTime at_
  .next ((s.spans.mirrors.filter (fun m => decide (m.snooped + 10 * Config.ticksPerSec ≤ s.tbc))).foldl State.snoopSend s)

/-- SNOOP at the worker (R174, R176): the value now, or that of the eviction buffer with STALE_AFTER. -/
def State.snoopTake (s : State) (k : SubKey) (tag : BitVec 8) : State :=
  let head := [0x18#8] ++ keyOf k ++ [tag]
  if s.spans.subs.any (isSubOf k) then
    s.sendUp 2 (head ++ [0#8] ++ valueBytes s.tbc (s.subValue k.ten.toNat k.idx.toNat k.sub.toNat))
  else match s.spans.evicted.find? (isEvictedOf k) with
    | some e => s.sendUp 2 (head ++ [1#8] ++ valueBytes e.latch e.val)
    | none => s

def execSnoop (p : Fin 4) (k : SubKey) (tag : BitVec 8) (at_ : Nat) (s : State) : Host.Outcome State Fault Refusal :=
  if !s.power.run ∨ (s.port p).lanes = 0 then .next s else
  .next ((s.atTime at_).fromAbove p k.w.toNat 0x17 ([0x17#8] ++ keyOf k ++ [tag]) (fun s => s.snoopTake k tag))

/-- SNOOP_RSP at the manager (R174, R176). -/
def State.snoopRsp (s : State) (k : SubKey) (stale : Bool) (latch : Nat) (v : List Byte) : State :=
  if stale then s.count 0x1221 4
  else match s.spans.mirrors.find? (isMirrorOf k) with
    | none => s
    | some m => if m.filled ∧ m.val = v then s else (s.count 0x1221 2).mirrorSet k latch v

def execSnoopRsp (p : Fin 4) (k : SubKey) (tag : BitVec 8) (stale : Bool) (latch : BitVec 64) (val : List Byte) (at_ : Nat) (s : State) :
    Host.Outcome State Fault Refusal :=
  if !s.power.run ∨ (s.port p).lanes = 0 then .next s else
  let msg := [0x18#8] ++ keyOf k ++ [tag, BitVec.ofNat 8 (b2n stale)] ++ valueBytes latch.toNat val
  .next ((s.atTime at_).fromBelow p 0x18 msg (fun s => s.snoopRsp k stale latch.toNat val))

/-! ## Tunnels (R177–R181) -/

/-- Whether a source's own format exceeds the video part of the reservation, or the ring (R180, R237; log entry 90). -/
def State.tunnelOver (s : State) (v fm : Nat) : Bool :=
  overReserve (s.getN (0x2140 + v) 4) fm (s.getN (0x2140 + v) 5) || s.oversize (0x20 + v) (fmtW fm) (fmtH fm)

/-- The format a tunnel delivers: VIN_FORMAT, OVERSIZE (R180). One that no format code holds is unsupported (R6, R238). -/
def State.tunnelFormat (s : State) (v : Nat) (m : FrameMeas) : State :=
  let n := 0x20 + v
  let psf := m.inter && m.psf && m.pid.isSome
  let fm := fmtOf m.w m.h (rateCodeOf m.period) (b2n (m.inter && !psf))
  let old := s.getN (0x2140 + v) 8
  let s := if old = fm then s else s.setInput n { s.input n with fields := [], psf := psf }
  let s := s.setN (0x2140 + v) 8 fm
  let tooBig := fm != 0 && s.tunnelOver v fm
  let was := s.getBit (0x2140 + v) 7 2
  let s := s.vinBit v 2 tooBig
  (if (tooBig && !was) || (fm == 0 && old != 0) then s.inputLoss n else s).takeToken n

/-- The packets of a new frame, or of the next, are no longer those of a spoiled one. -/
def State.unspoil (s : State) (v : Nat) : State := s.setInput (0x20 + v) { s.input (0x20 + v) with spoiled := false }

/-- An audio sample frame of the tunnel: at most VIN_AUDIO_CHANNELS channels; a source that is not carried gives none (R180). -/
def State.tunnelAudio (s : State) (v carried : Nat) (samples : List Int) (nonAudio : Nat) : State :=
  let k := 0x20 + v
  if s.getBit (0x2140 + v) 7 2 then s else
  let most := carried &&& (2 ^ s.getN (0x2140 + v) 6 - 1)
  let s := s.setFeed k { s.feed k with carried := most }
  let l := (List.range 16).map (fun c => if bitAt most c then clip24 (samples.getD c 0) else 0)
  let (s, l) := s.nonAudio k l nonAudio
  s.feedPush k l

/-- An item of the tunnel of virtual input `v`, whose path stands; `video` says that its kind carries video. -/
def State.tunnelItem (s : State) (v : Nat) (video : Bool) (item : TunnelItem) : State :=
  let n := 0x20 + v
  match item with
  | .lock => s.vinBit v 1 false
  | .loss => if s.getBit (0x2140 + v) 7 1 then s else ((s.vinBit v 1 true).setN (0x2140 + v) 8 0).inputLoss n
  | .frameStart field2 main override =>
    if !video ∨ s.getBit (0x2140 + v) 7 1 then s else
    let s := if field2 then s else s.setInput n { s.input n with conv := convOf (s.inCsc n) main override false, startAt := s.tbc }
    let begins := !(s.inFields n) || !field2 || decide (1 ≤ s.deintMode n)
    if begins then (if s.writable n then s.ringFrameStart n else s).unspoil v else s
  | .frameEnd field2 meas raw =>
    if !video ∨ s.getBit (0x2140 + v) 7 1 then s else
    let ready := s.writable n
    let s := match meas with
      | some m => s.tunnelFormat v m
      | none => s
    let ends := !(s.inFields n) || field2 || decide (1 ≤ s.deintMode n)
    let s := if ready && s.writable n then s.ringField n field2 raw else s
    if ends then s.unspoil v else s
  | .lost k => s.tunnelLost v k
  | .audio carried samples nonAudio => if s.getN (0x2140 + v) 3 = 1 then s else s.tunnelAudio v carried.toNat samples nonAudio.toNat
  | .pathDown => s.tunnelDown v
  | .pathUp _ => s

/-- TUNNEL_PACKET: what arrives at a virtual input whose tunnel is active and whose path stands; and a path that goes down, or is
restored, farther off (R181). -/
def execTunnelPacket (v : Fin 32) (item : TunnelItem) (at_ : Nat) (s : State) : Host.Outcome State Fault Refusal :=
  if !s.power.run ∨ s.getN (0x2140 + v) 1 = 0 then .next s else
  let s := s.atTime at_
  if s.getBit (0x2140 + v) 7 3 then
    match item, s.tunnelPath v with
    | .pathUp true, some _ => .next (s.tunnelUp v)
    | .pathUp false, some _ => .next (s.violation 0x31 [BitVec.ofNat 8 v])
    | _, _ => .next s
  else .next (s.tunnelItem v (s.getN (0x2140 + v) 3 != 2) item)

end Sys2Proof.Machine
end

