-- ==== Sys2Proof/Machine/Flags.lean ====
section
/-! DEFINITION. Levels at the balls that follow from the state: DZ_ATTN and DZ_DE (R10, R67, R35), PWR_EN0–3 (R477), the lamp
gates (R330, R473), DP_HPD (R216), the serial audio clock pins (chapter 10); and what boundary scan makes of them (R513). -/
namespace Sys2Proof.Machine

/-- Whether the JTAG port works: VDD_IO18, a rail of group 0, is powered (R512). -/
def State.jtagOn (s : State) : Bool := s.dieSeen

/-- Whether EXTEST is selected (R512). -/
def State.extest (s : State) : Bool := s.jtagOn && s.jtag.ir == 0#8

/-- What the core gives a scanned ball: its level and whether it drives it, each `none` where the manual does not say. -/
structure BallOut where
  level : Option Bool
  drive : Option Bool
  deriving DecidableEq, Repr

def ballIn : BallOut := { level := none, drive := some false }

/-- A serial audio pin, 0–5 in the order RXBCK, RXFS, RXD, TXBCK, TXFS, TXD. -/
def State.sapPin (s : State) (n i : Nat) : BallOut :=
  let mode := if s.power.run then s.getN (0x2700 + n) (if i < 3 then 1 else 2) else 0
  let master := mode == 2 || mode == 4
  if i = 2 then ballIn
  else if i = 5 then (if mode = 0 then ballIn else { level := none, drive := none })
  else { level := none, drive := some master }

/-- DZ_DE after the falling edge that follows edge `k` of the last frame answered (R35, R43); a worker drives it low. -/
def State.dzDe (s : State) (k : Nat) : Bool := s.mgr && ((s.link.wave.map (fun w => w.de k)).getD false)

/-- DZ_SDO after the falling edge that follows edge `k` of the last frame answered (R43); a worker leaves it undriven. -/
def State.dzSdo (s : State) (k : Nat) : Option Bool := if s.mgr then s.link.wave.bind (fun w => w.sdo k) else none

/-- The scanned balls in the order of R513, between the frames of the link: DZ_DE is then low. A manager strapped LINKMODE 0b11
keeps DZ_DE undriven (R33). -/
def State.ballOut (s : State) (b : Nat) : BallOut :=
  if b = 4 then { level := some false, drive := some s.attnLow }
  else if b = 5 then { level := some false, drive := some (!(s.mgr && s.straps.linkmode == 3#2)) }
  else if b < 14 then ballIn
  else if b < 18 then { level := some (bitAt s.power.enables (b - 14)), drive := some true }
  else if b < 114 then s.sapPin ((b - 18) / 6) ((b - 18) % 6)
  else if b < 122 then { level := some (s.input (4 * (b - 114))).hpd, drive := some true }
  else ballIn

/-- PWR_EN0–3 (R477): under EXTEST they stay as the scan cells set them (R513). -/
def State.pwrEn (s : State) (g : Nat) : Bool :=
  if s.extest then s.jtag.cells.getD (3 * (14 + g) + 1) false else bitAt s.power.enables g

/-- LGATEn switches: never under EXTEST (R513), else while its channel is driven (R330). -/
def State.lgate (s : State) (c : Nat) : Bool := !s.extest && (s.lamp c).drive.mode != 0

/-- A high-speed or LVDS transmitter of an output is idle under EXTEST (R513), and while its output sends nothing. -/
def State.txIdle (s : State) (n : Nat) : Bool := s.extest || !(s.output n).on

end Sys2Proof.Machine
end

