-- ==== Sys2Proof/Machine/Jtag.lean ====
section
/-! DEFINITION. The JTAG port (R512, R513): the IEEE 1149.1 TAP controller, the 8-bit instruction register, BYPASS, and the
boundary-scan register of 516 cells. -/
namespace Sys2Proof.Machine

/-- The next TAP state for a level of TMS (IEEE 1149.1). -/
def Tap.next (t : Tap) (tms : Bool) : Tap :=
  match t with
  | .reset => if tms then .reset else .idle
  | .idle => if tms then .selectDr else .idle
  | .selectDr => if tms then .selectIr else .captureDr
  | .captureDr => if tms then .exit1Dr else .shiftDr
  | .shiftDr => if tms then .exit1Dr else .shiftDr
  | .exit1Dr => if tms then .updateDr else .pauseDr
  | .pauseDr => if tms then .exit2Dr else .pauseDr
  | .exit2Dr => if tms then .updateDr else .shiftDr
  | .updateDr => if tms then .selectDr else .idle
  | .selectIr => if tms then .reset else .captureIr
  | .captureIr => if tms then .exit1Ir else .shiftIr
  | .shiftIr => if tms then .exit1Ir else .shiftIr
  | .exit1Ir => if tms then .updateIr else .pauseIr
  | .pauseIr => if tms then .exit2Ir else .pauseIr
  | .exit2Ir => if tms then .updateIr else .shiftIr
  | .updateIr => if tms then .selectDr else .idle

/-- Whether an instruction selects the boundary-scan register: EXTEST or SAMPLE/PRELOAD; every other selects BYPASS. -/
def scanInstr (ir : BitVec 8) : Bool := ir == 0x00#8 || ir == 0x01#8

/-- A shift towards TDO: the head of the list is the TDI end. -/
def scanShift (tdi : Bool) (l : List Bool) : List Bool := (tdi :: l).take l.length

/-- The value of the instruction register's bits, most significant at the TDI end. -/
def irValue (l : List Bool) : BitVec 8 := BitVec.ofNat 8 (l.foldl (fun a b => 2 * a + b2n b) 0)

/-- The instruction register captures 01 in its two low bits (IEEE 1149.1); the rest is open (log entry 32). -/
def State.irCapture (s : State) : List Bool := (List.range 6).map (Config.scanBit s.seed) ++ [false, true]

/-- What the three cells of a ball capture: its level, and what the core drives. -/
def State.ballCapture (s : State) (pins : List Bool) (b : Nat) : List Bool :=
  let o := s.ballOut b
  [pins.getD b false, o.level.getD (Config.scanBit s.seed (2 * b)), o.drive.getD (Config.scanBit s.seed (2 * b + 1))]

def State.scanCapture (s : State) (pins : List Bool) : List Bool := (List.range 172).flatMap (s.ballCapture pins)

/-- What the rising TCK edge does in the present TAP state: captures and shifts. -/
def State.tapRise (s : State) (tdi : Bool) (pins : List Bool) : State :=
  let j := s.jtag
  match j.tap with
  | .captureIr => { s.drawn with jtag := { j with irShift := s.irCapture } }
  | .shiftIr => { s with jtag := { j with irShift := scanShift tdi j.irShift } }
  | .captureDr =>
    if scanInstr j.ir then { s.drawn with jtag := { j with shift := s.scanCapture pins } } else { s with jtag := { j with bypass := false } }
  | .shiftDr =>
    if scanInstr j.ir then { s with jtag := { j with shift := scanShift tdi j.shift } } else { s with jtag := { j with bypass := tdi } }
  | _ => s

/-- What the falling edge does in the state just entered: updates, and TDO. -/
def Jtag.fall (j : Jtag) : Jtag :=
  match j.tap with
  | .reset => { j with ir := 0xFF#8, tdo := none }
  | .updateIr => { j with ir := irValue j.irShift, tdo := none }
  | .updateDr => { j with cells := if scanInstr j.ir then j.shift else j.cells, tdo := none }
  | .shiftIr => { j with tdo := some (j.irShift.getLast?.getD false) }
  | .shiftDr => { j with tdo := some (if scanInstr j.ir then j.shift.getLast?.getD false else j.bypass) }
  | _ => { j with tdo := none }

/-- JTAG_TCK_EDGE: a rising and the following falling edge of TCK. The port works only while VDD_IO18 is powered; it starts
afresh in Test-Logic-Reset. `pins` are the levels of the 172 scanned balls. -/
def execJtagTckEdge (tms tdi : Bool) (pins : List Bool) (s : State) : Host.Outcome State Fault Refusal :=
  if !s.jtagOn then .next { s with jtag := {} }
  else
    let s := s.tapRise tdi pins
    .next { s with jtag := { s.jtag with tap := s.jtag.tap.next tms }.fall }

/-- TRST_N_ASSERT: Test-Logic-Reset, which selects BYPASS. -/
def execTrstNAssert (s : State) : Host.Outcome State Fault Refusal :=
  .next { s with jtag := { s.jtag with tap := .reset, ir := 0xFF#8, tdo := none } }

end Sys2Proof.Machine
end

