-- ==== Sys2Proof/Machine/Dispatch.lean ====
section
/-! DEFINITION. What each command does: one arm per constructor of `Instr`, one direct call of its meaning. -/
namespace Sys2Proof.Machine

def exec (i : Instr) (s : State) : Host.Outcome State Fault Refusal :=
  match i with
  | .nopPoll f => Sys2Proof.Machine.execNopPoll f s
  | .candidateMeasure k m at_ => Sys2Proof.Machine.execCandidateMeasure k m at_ s
  | .referenceLoss k at_ => Sys2Proof.Machine.execReferenceLoss k at_ s
  | .selectorEvaluate phaseNs buildoutNs at_ => Sys2Proof.Machine.execSelectorEvaluate phaseNs buildoutNs at_ s
  | .realignmentDone at_ => Sys2Proof.Machine.execRealignmentDone at_ s
  | .ppsEdge passing at_ => Sys2Proof.Machine.execPpsEdge passing at_ s
  | .referenceFramePulse k fmt at_ => Sys2Proof.Machine.execReferenceFramePulse k fmt at_ s
  | .crossbarTransaction x at_ => Sys2Proof.Machine.execCrossbarTransaction x at_ s
  | .lockBreak at_ => Sys2Proof.Machine.execLockBreak at_ s
  | .classCPromotion m t at_ => Sys2Proof.Machine.execClassCPromotion m t at_ s
  | .scrubRead upset at_ => Sys2Proof.Machine.execScrubRead upset at_ s
  | .bankPowerReady p => Sys2Proof.Machine.execBankPowerReady p s
  | .marchSchedule at_ => Sys2Proof.Machine.execMarchSchedule at_ s
  | .preservingTestPhaseDone r at_ => Sys2Proof.Machine.execPreservingTestPhaseDone r at_ s
  | .dramRefresh c classA => Sys2Proof.Machine.execDramRefresh c classA s
  | .mr4Poll c rate hot => Sys2Proof.Machine.execMr4Poll c rate hot s
  | .dramPatrolRead c upset at_ => Sys2Proof.Machine.execDramPatrolRead c upset at_ s
  | .dramTrainingDone codes densities => Sys2Proof.Machine.execDramTrainingDone codes densities s
  | .inputSignalLock n rate at_ => Sys2Proof.Machine.execInputSignalLock n rate at_ s
  | .inputFrameStart n field2 main override at_ => Sys2Proof.Machine.execInputFrameStart n field2 main override at_ s
  | .inputFrameComplete n field2 meas raw at_ => Sys2Proof.Machine.execInputFrameComplete n field2 meas raw at_ s
  | .inputSignalLoss n at_ => Sys2Proof.Machine.execInputSignalLoss n at_ s
  | .holdExpiry n => Sys2Proof.Machine.execHoldExpiry n s
  | .writerStarved n at_ => Sys2Proof.Machine.execWriterStarved n at_ s
  | .readerSelect e at_ => Sys2Proof.Machine.execReaderSelect e at_ s
  | .auxRequest k req => Sys2Proof.Machine.execAuxRequest k req s
  | .edidHpdPulseEnd k => Sys2Proof.Machine.execEdidHpdPulseEnd k s
  | .segmentTransmit n y tx late at_ => Sys2Proof.Machine.execSegmentTransmit n y tx late at_ s
  | .audioSampleFrameArrival n form samples nonAudio at_ => Sys2Proof.Machine.execAudioSampleFrameArrival n form samples nonAudio at_ s
  | .matrixSamplePeriod => Sys2Proof.Machine.execMatrixSamplePeriod s
  | .sapFrameReceived n slots bclk nonAudio at_ => Sys2Proof.Machine.execSapFrameReceived n slots bclk nonAudio at_ s
  | .sapTxFrame n bclk at_ => Sys2Proof.Machine.execSapTxFrame n bclk at_ s
  | .sapClockAbsent n tx at_ => Sys2Proof.Machine.execSapClockAbsent n tx at_ s
  | .nonaudioHoldExpiry feed pair => Sys2Proof.Machine.execNonaudioHoldExpiry feed pair s
  | .asrcLock k locks at_ => Sys2Proof.Machine.execAsrcLock k locks at_ s
  | .rateMeasure what frames ticks at_ => Sys2Proof.Machine.execRateMeasure what frames ticks at_ s
  | .audioRingTransfer r frames at_ => Sys2Proof.Machine.execAudioRingTransfer r frames at_ s
  | .outputFrameStart n => Sys2Proof.Machine.execOutputFrameStart n s
  | .hpdPlug n sink at_ => Sys2Proof.Machine.execHpdPlug n sink at_ s
  | .hpdUnplug n at_ => Sys2Proof.Machine.execHpdUnplug n at_ s
  | .irqHpd n lostLock at_ => Sys2Proof.Machine.execIrqHpd n lostLock at_ s
  | .linkTrainingDone n attempts panel at_ => Sys2Proof.Machine.execLinkTrainingDone n attempts panel at_ s
  | .trainRetryTimer n => Sys2Proof.Machine.execTrainRetryTimer n s
  | .zoneStatsPublish n at_ => Sys2Proof.Machine.execZoneStatsPublish n at_ s
  | .lampTick meas => Sys2Proof.Machine.execLampTick meas s
  | .budgetRiseApply at_ => Sys2Proof.Machine.execBudgetRiseApply at_ s
  | .pwmPeriodStart c m at_ => Sys2Proof.Machine.execPwmPeriodStart c m at_ s
  | .openRetryBurst c pass => Sys2Proof.Machine.execOpenRetryBurst c pass s
  | .shortRetest c lvmon => Sys2Proof.Machine.execShortRetest c lvmon s
  | .verifyAgeExpiry c => Sys2Proof.Machine.execVerifyAgeExpiry c s
  | .thermistorSample codes die at_ => Sys2Proof.Machine.execThermistorSample codes die at_ s
  | .lampGateWatchdog c at_ => Sys2Proof.Machine.execLampGateWatchdog c at_ s
  | .neighbourTest fails at_ => Sys2Proof.Machine.execNeighbourTest fails at_ s
  | .read f => Sys2Proof.Machine.execRead f s
  | .write f => Sys2Proof.Machine.execWrite f s
  | .blockRead f => Sys2Proof.Machine.execBlockRead f s
  | .blockWrite f => Sys2Proof.Machine.execBlockWrite f s
  | .prepare f => Sys2Proof.Machine.execPrepare f s
  | .kickoff f => Sys2Proof.Machine.execKickoff f s
  | .whistle f => Sys2Proof.Machine.execWhistle f s
  | .sessionOpen f => Sys2Proof.Machine.execSessionOpen f s
  | .sessionClose f => Sys2Proof.Machine.execSessionClose f s
  | .rollCall f => Sys2Proof.Machine.execRollCall f s
  | .logRead f => Sys2Proof.Machine.execLogRead f s
  | .eventAck f late => Sys2Proof.Machine.execEventAck f late s
  | .save f => Sys2Proof.Machine.execSave f s
  | .discard f => Sys2Proof.Machine.execDiscard f s
  | .reservedTypeFrame f => Sys2Proof.Machine.execReservedTypeFrame f s
  | .dzSelEarlyRise ty f edge => Sys2Proof.Machine.execDzSelEarlyRise ty f edge s
  | .crcStormExit => Sys2Proof.Machine.execCrcStormExit s
  | .frameOpenWatchdog got at_ => Sys2Proof.Machine.execFrameOpenWatchdog got at_ s
  | .bridgeComplete at_ => Sys2Proof.Machine.execBridgeComplete at_ s
  | .koAbandon f => Sys2Proof.Machine.execKoAbandon f s
  | .koEpochWrite f => Sys2Proof.Machine.execKoEpochWrite f s
  | .whEpochWrite f => Sys2Proof.Machine.execWhEpochWrite f s
  | .stSaveNow f => Sys2Proof.Machine.execStSaveNow f s
  | .stEraseImage f => Sys2Proof.Machine.execStEraseImage f s
  | .mtpSaveDone bad low at_ => Sys2Proof.Machine.execMtpSaveDone bad low at_ s
  | .subActionAdd f => Sys2Proof.Machine.execSubActionAdd f s
  | .subActionRemove f => Sys2Proof.Machine.execSubActionRemove f s
  | .tnCodeHi t f => Sys2Proof.Machine.execTnCodeHi t f s
  | .tnCodeLo t f => Sys2Proof.Machine.execTnCodeLo t f s
  | .tnEnableWrite t f => Sys2Proof.Machine.execTnEnableWrite t f s
  | .lockoutExpiry t => Sys2Proof.Machine.execLockoutExpiry t s
  | .pwStandby f => Sys2Proof.Machine.execPwStandby f s
  | .standbyEntry at_ => Sys2Proof.Machine.execStandbyEntry at_ s
  | .pwWake f => Sys2Proof.Machine.execPwWake f s
  | .spanEnergyWake p => Sys2Proof.Machine.execSpanEnergyWake p s
  | .pwDpReset f => Sys2Proof.Machine.execPwDpReset f s
  | .cxControlStart x f => Sys2Proof.Machine.execCxControlStart x f s
  | .cxControlHalt x f => Sys2Proof.Machine.execCxControlHalt x f s
  | .cxControlStep x f => Sys2Proof.Machine.execCxControlStep x f s
  | .mtRunNow f => Sys2Proof.Machine.execMtRunNow f s
  | .mrProgram f => Sys2Proof.Machine.execMrProgram f s
  | .mrProgramDone ok at_ => Sys2Proof.Machine.execMrProgramDone ok at_ s
  | .lwNeighbourTest f => Sys2Proof.Machine.execLwNeighbourTest f s
  | .arPlayStart r f => Sys2Proof.Machine.execArPlayStart r f s
  | .arPlayStop r f => Sys2Proof.Machine.execArPlayStop r f s
  | .outForceSafe n f => Sys2Proof.Machine.execOutForceSafe n f s
  | .wdHostSWrite f => Sys2Proof.Machine.execWdHostSWrite f s
  | .hostSilenceWatchdog => Sys2Proof.Machine.execHostSilenceWatchdog s
  | .prepareResult answers at_ => Sys2Proof.Machine.execPrepareResult answers at_ s
  | .devicePrepare paths at_ => Sys2Proof.Machine.execDevicePrepare paths at_ s
  | .kickoffApplyPoint part => Sys2Proof.Machine.execKickoffApplyPoint part s
  | .whistleApplyPoint part => Sys2Proof.Machine.execWhistleApplyPoint part s
  | .spanLinkUp p locked at_ => Sys2Proof.Machine.execSpanLinkUp p locked at_ s
  | .linkDown p alignLost at_ => Sys2Proof.Machine.execLinkDown p alignLost at_ s
  | .idle p => Sys2Proof.Machine.execIdle p s
  | .align p inStep at_ => Sys2Proof.Machine.execAlign p inStep at_ s
  | .tsync p seq stamp frac at_ => Sys2Proof.Machine.execTsync p seq stamp frac at_ s
  | .delayReq p seq frac at_ => Sys2Proof.Machine.execDelayReq p seq frac at_ s
  | .delayRsp p seq stamp => Sys2Proof.Machine.execDelayRsp p seq stamp s
  | .timeExchangeTick frac at_ => Sys2Proof.Machine.execTimeExchangeTick frac at_ s
  | .credit p ch freed next at_ => Sys2Proof.Machine.execCredit p ch freed next at_ s
  | .spanPacket p k at_ => Sys2Proof.Machine.execSpanPacket p k at_ s
  | .reliableResendTimeout p ch at_ => Sys2Proof.Machine.execReliableResendTimeout p ch at_ s
  | .hello p h at_ => Sys2Proof.Machine.execHello p h at_ s
  | .helloTick at_ => Sys2Proof.Machine.execHelloTick at_ s
  | .joinReq p serial addr hops path at_ => Sys2Proof.Machine.execJoinReq p serial addr hops path at_ s
  | .joinGrant p serial addr hops path anchor bus at_ => Sys2Proof.Machine.execJoinGrant p serial addr hops path anchor bus at_ s
  | .joinRefuse p serial hops path reason at_ => Sys2Proof.Machine.execJoinRefuse p serial hops path reason at_ s
  | .joinRetryTimer at_ => Sys2Proof.Machine.execJoinRetryTimer at_ s
  | .leave p reason addrs at_ => Sys2Proof.Machine.execLeave p reason addrs at_ s
  | .roll p gen at_ => Sys2Proof.Machine.execRoll p gen at_ s
  | .rollRsp p gen entry at_ => Sys2Proof.Machine.execRollRsp p gen entry at_ s
  | .rollCallTimer at_ => Sys2Proof.Machine.execRollCallTimer at_ s
  | .rollCallTimeout at_ => Sys2Proof.Machine.execRollCallTimeout at_ s
  | .subAdd p k at_ => Sys2Proof.Machine.execSubAdd p k at_ s
  | .subDel p k at_ => Sys2Proof.Machine.execSubDel p k at_ s
  | .subRsp p k status at_ => Sys2Proof.Machine.execSubRsp p k status at_ s
  | .subscriptionPush ten idx sub at_ => Sys2Proof.Machine.execSubscriptionPush ten idx sub at_ s
  | .push p k latch val at_ => Sys2Proof.Machine.execPush p k latch val at_ s
  | .evict p k latch val reason at_ => Sys2Proof.Machine.execEvict p k latch val reason at_ s
  | .evictAck p k at_ => Sys2Proof.Machine.execEvictAck p k at_ s
  | .mirrorSnoopTimer at_ => Sys2Proof.Machine.execMirrorSnoopTimer at_ s
  | .snoop p k tag at_ => Sys2Proof.Machine.execSnoop p k tag at_ s
  | .snoopRsp p k tag stale latch val at_ => Sys2Proof.Machine.execSnoopRsp p k tag stale latch val at_ s
  | .relayedFrame ty f => Sys2Proof.Machine.execRelayedFrame ty f s
  | .agentFrame ten seq => Sys2Proof.Machine.execAgentFrame ten seq s
  | .tunnelPacket v item at_ => Sys2Proof.Machine.execTunnelPacket v item at_ s
  | .cueBoot => Sys2Proof.Machine.execCueBoot s
  | .add x rd ra rb => Sys2Proof.Machine.execAdd x rd ra rb s
  | .sub x rd ra rb => Sys2Proof.Machine.execSub x rd ra rb s
  | .and x rd ra rb => Sys2Proof.Machine.execAnd x rd ra rb s
  | .or x rd ra rb => Sys2Proof.Machine.execOr x rd ra rb s
  | .xor x rd ra rb => Sys2Proof.Machine.execXor x rd ra rb s
  | .shl x rd ra rb => Sys2Proof.Machine.execShl x rd ra rb s
  | .shr x rd ra rb => Sys2Proof.Machine.execShr x rd ra rb s
  | .sra x rd ra rb => Sys2Proof.Machine.execSra x rd ra rb s
  | .mul x rd ra rb => Sys2Proof.Machine.execMul x rd ra rb s
  | .sltu x rd ra rb => Sys2Proof.Machine.execSltu x rd ra rb s
  | .slt x rd ra rb => Sys2Proof.Machine.execSlt x rd ra rb s
  | .addi x rd ra imm => Sys2Proof.Machine.execAddi x rd ra imm s
  | .andi x rd ra imm => Sys2Proof.Machine.execAndi x rd ra imm s
  | .ori x rd ra imm => Sys2Proof.Machine.execOri x rd ra imm s
  | .xori x rd ra imm => Sys2Proof.Machine.execXori x rd ra imm s
  | .shli x rd ra n => Sys2Proof.Machine.execShli x rd ra n s
  | .shri x rd ra n => Sys2Proof.Machine.execShri x rd ra n s
  | .srai x rd ra n => Sys2Proof.Machine.execSrai x rd ra n s
  | .sltiu x rd ra imm => Sys2Proof.Machine.execSltiu x rd ra imm s
  | .slti x rd ra imm => Sys2Proof.Machine.execSlti x rd ra imm s
  | .movk x rd imm k => Sys2Proof.Machine.execMovk x rd imm k s
  | .lb x rd ra imm => Sys2Proof.Machine.execLb x rd ra imm s
  | .lh x rd ra imm => Sys2Proof.Machine.execLh x rd ra imm s
  | .lw x rd ra imm => Sys2Proof.Machine.execLw x rd ra imm s
  | .ld x rd ra imm => Sys2Proof.Machine.execLd x rd ra imm s
  | .sb x rs ra imm => Sys2Proof.Machine.execSb x rs ra imm s
  | .sh x rs ra imm => Sys2Proof.Machine.execSh x rs ra imm s
  | .sw x rs ra imm => Sys2Proof.Machine.execSw x rs ra imm s
  | .sd x rs ra imm => Sys2Proof.Machine.execSd x rs ra imm s
  | .xchg x rd ra rb broken => Sys2Proof.Machine.execXchg x rd ra rb broken s
  | .beq x ra rb off => Sys2Proof.Machine.execBeq x ra rb off s
  | .bne x ra rb off => Sys2Proof.Machine.execBne x ra rb off s
  | .blt x ra rb off => Sys2Proof.Machine.execBlt x ra rb off s
  | .bge x ra rb off => Sys2Proof.Machine.execBge x ra rb off s
  | .bltu x ra rb off => Sys2Proof.Machine.execBltu x ra rb off s
  | .bgeu x ra rb off => Sys2Proof.Machine.execBgeu x ra rb off s
  | .jal x rd off => Sys2Proof.Machine.execJal x rd off s
  | .jalr x rd ra imm => Sys2Proof.Machine.execJalr x rd ra imm s
  | .tbc x rd => Sys2Proof.Machine.execTbc x rd s
  | .waitt x ra => Sys2Proof.Machine.execWaitt x ra s
  | .waittDone x => Sys2Proof.Machine.execWaittDone x s
  | .waitf x rd ra => Sys2Proof.Machine.execWaitf x rd ra s
  | .waitfDone x => Sys2Proof.Machine.execWaitfDone x s
  | .sig x mask imm => Sys2Proof.Machine.execSig x mask imm s
  | .waits x rd imm => Sys2Proof.Machine.execWaits x rd imm s
  | .waitsDone x => Sys2Proof.Machine.execWaitsDone x s
  | .gets x rd => Sys2Proof.Machine.execGets x rd s
  | .drd x rd ra => Sys2Proof.Machine.execDrd x rd ra s
  | .dwr x ra rb => Sys2Proof.Machine.execDwr x ra rb s
  | .cuePortComplete x at_ => Sys2Proof.Machine.execCuePortComplete x at_ s
  | .prep x => Sys2Proof.Machine.execPrep x s
  | .kick x ra => Sys2Proof.Machine.execKick x ra s
  | .whis x ra => Sys2Proof.Machine.execWhis x ra s
  | .kwait x rd w => Sys2Proof.Machine.execKwait x rd w s
  | .kwaitDone x => Sys2Proof.Machine.execKwaitDone x s
  | .blit x ra => Sys2Proof.Machine.execBlit x ra s
  | .blitExecute rows at_ => Sys2Proof.Machine.execBlitExecute rows at_ s
  | .bwait x => Sys2Proof.Machine.execBwait x s
  | .bwaitDone x => Sys2Proof.Machine.execBwaitDone x s
  | .play x ra rb => Sys2Proof.Machine.execPlay x ra rb s
  | .post x val => Sys2Proof.Machine.execPost x val s
  | .nop x => Sys2Proof.Machine.execNop x s
  | .halt x => Sys2Proof.Machine.execHalt x s
  | .illegalInstruction x word => Sys2Proof.Machine.execIllegalInstruction x word s
  | .cueMemoryResponse x at_ => Sys2Proof.Machine.execCueMemoryResponse x at_ s
  | .powerOnReset => Sys2Proof.Machine.execPowerOnReset s
  | .porRelease straps => Sys2Proof.Machine.execPorRelease straps s
  | .railGroupGood g die => Sys2Proof.Machine.execRailGroupGood g die s
  | .startDieHoldRelease die => Sys2Proof.Machine.execStartDieHoldRelease die s
  | .dataPlaneStart info => Sys2Proof.Machine.execDataPlaneStart info s
  | .enableInstant at_ => Sys2Proof.Machine.execEnableInstant at_ s
  | .railFault g at_ => Sys2Proof.Machine.execRailFault g at_ s
  | .railFaultRestart => Sys2Proof.Machine.execRailFaultRestart s
  | .xoLoss at_ => Sys2Proof.Machine.execXoLoss at_ s
  | .xoRestart => Sys2Proof.Machine.execXoRestart s
  | .thermalWarning die at_ => Sys2Proof.Machine.execThermalWarning die at_ s
  | .thermalTrip die at_ => Sys2Proof.Machine.execThermalTrip die at_ s
  | .thermalRestart die => Sys2Proof.Machine.execThermalRestart die s
  | .thermalWarningClear die at_ => Sys2Proof.Machine.execThermalWarningClear die at_ s
  | .badSyncFrame first8 edges => Sys2Proof.Machine.execBadSyncFrame first8 edges s
  | .badControlBlock p crcBad typ at_ => Sys2Proof.Machine.execBadControlBlock p crcBad typ at_ s
  | .alignInterval p => Sys2Proof.Machine.execAlignInterval p s
  | .creditInterval p => Sys2Proof.Machine.execCreditInterval p s
  | .jtagTckEdge tms tdi pins => Sys2Proof.Machine.execJtagTckEdge tms tdi pins s
  | .trstNAssert => Sys2Proof.Machine.execTrstNAssert s

end Sys2Proof.Machine
end

