-- ==== Sys2Proof/Safety.lean ====
section
/-! DEFINITION. What a safe run is, in the terms that claims use: the invariant that every step keeps, the conditions under
which this manager takes up a frame and executes it (chapter 2, steps 1–6 of R50), and the state as it stands on the last
request edge E of such a frame. -/
namespace Sys2Proof.Machine

/-- What holds of every state a run reaches: memory is in its canonical form, the SCK edge count is a 48-bit number (R12),
TBC a 64-bit number, the always-on logs hold no more than their size (R464, R457). -/
structure State.Inv (s : State) : Prop where
  mem : Memory.wf s.mem = true
  sck : s.sck < 2 ^ 48
  tbc : s.tbc < 2 ^ 64
  vlog : s.ev.vlog.length ≤ 256
  audit : s.ev.audit.length ≤ 128

/-- The frame comes whole and right to this manager's own bus address, and the link is not in the CRC-storm state (steps 1
and 2 of R50, R33). -/
structure State.Takes (s : State) (ty : Nat) (f : Frame) : Prop where
  released : s.power.held = false
  manager : s.mgr = true
  linkmode : s.straps.linkmode ≠ 3#2
  storm : s.link.storm = false
  addressed : f.mgr.toNat = s.straps.addr.toNat
  whole : f.payload.length = f.len.toNat
  short : f.len.toNat ≤ 4096
  crc : f.crc.toNat = crc32c (frameBody ty f)

/-- The frame is for the manager itself and passes steps 3–6 of R50: well formed, no replay, its tenant not locked out. -/
structure State.Executes (s : State) (ty : Nat) (f : Frame) : Prop where
  takes : s.Takes ty f
  worker : f.wrk = 0#8
  tenant : f.ten.toNat < 128
  noObject : objectless ty = true → f.index = 0#16 ∧ f.sub = 0#8
  type : ty < 15
  fresh : changes ty = true → s.link.replay ≠ some (ty * 16 + f.seq.toNat, f.crc.toNat)
  unlocked : (s.tenant f.ten.toNat).lock = 0
  noFails : (s.tenant f.ten.toNat).fails < 8

/-- The state on edge E of a frame that passes its CRC check: 112 + 8N edges have passed, and the frame is counted (R69). -/
def State.heard (s : State) (f : Frame) : State := (s.selHigh.clock (112 + 8 * f.len.toNat)).crcOk true

/-- The state after a response and what follows it: the turnaround of DZ_TURNAROUND edges, the response, the 12 settle edges,
whose last adds `g`, and the frame's further edges (R42, R45). DZ_SDO has carried status, echo byte and payload, DZ_DE was
high around them (R43). -/
def State.answered (s : State) (f : Frame) (status echo : Nat) (payload : List Byte) (g : State → State) : State :=
  let t := s.getN 0x1101 1
  let s1 := s.clock (t + (72 + 8 * payload.length) + 12)
  (g (s1.drive { status := status, echo := echo, payload := payload, full := true } (112 + 8 * f.len.toNat) t none)).clock f.gap

/-- The echo byte of a frame of a type (chapter 2, Response frame). -/
def echoOf (ty : Nat) (f : Frame) : Nat := ty * 16 + f.seq.toNat

/-- The replay record becomes this request (R52). -/
def State.replayed (s : State) (ty : Nat) (f : Frame) : State :=
  { s with link := { s.link with replay := some (echoOf ty f, f.crc.toNat) } }

/-- A WRITE passes steps 7–13 of R50 and addresses `o`. -/
def State.MayWrite (s : State) (f : Frame) (o : Obj) : Prop :=
  (s.heard f).writeCheck f.ten.toNat (s.tenant f.ten.toNat).session f.index.toNat f.sub.toNat f.payload = .inr o

/-- A request of a tenant finds room in the bridge queue (R53). -/
def State.HasRoom (s : State) (f : Frame) : Prop :=
  (s.queue.filter (fun e => e.cue.isNone)).length < 8 ∧
  (s.queue.filter (fun e => e.cue.isNone && e.ten == f.ten.toNat)).length < 4

/-- The entry that a request makes in the bridge queue (R53). -/
def entryOf (ty : Nat) (f : Frame) (j : Job) : BEntry :=
  { ten := f.ten.toNat, echo := echoOf ty f, crc := f.crc.toNat, job := j }

/-- `t` is `s` after a request that the bridge queue has accepted, answered 0x08: the entry waits last, the request is the replay
record if it changes state, nothing is staged and no other part of the control plane has moved. -/
def State.Queued (s t : State) (ty : Nat) (f : Frame) (j : Job) : Prop :=
  t.queue = s.queue ++ [entryOf ty f j] ∧
  t.link.resp = some { status := 8, echo := echoOf ty f, payload := [], full := true } ∧
  t.link.replay = (if changes ty then some (echoOf ty f, f.crc.toNat) else s.link.replay) ∧
  t.staging = s.staging ∧ t.tenants = s.tenants ∧ t.straps = s.straps ∧ t.mem = s.mem ∧ t.tbc = s.tbc ∧ t.pending = s.pending

/-- `t` is `s` with nothing changed but context `x` of the cue engine. -/
def State.CueOnly (s t : State) (x : Nat) : Prop :=
  t = { s with cue := t.cue } ∧ t.cue.blits = s.cue.blits ∧ ∀ y, y ≠ x → t.ctx y = s.ctx y

/-- The state a context is in once its instruction has ended: a step, or a halt that waited, halts it (R424, R425). -/
def Ctx.stAfter (c : Ctx) : Nat := if c.step || c.halt then 0 else 1

/-- The registers with `v` in register `rd`; c0 reads 0 and discards it (R417). -/
def Ctx.wrote (c : Ctx) (rd : Fin 16) (v : Word) (k : Fin 16) : Word := if k = rd ∧ k ≠ 0 then v else c.reg k

/-- Context `x` has completed its instruction: the next one stands at `pc`, the registers are `regs`, and cs, the signals and
the rest of the context are as before. -/
def State.Ran (s t : State) (x : Fin 4) (pc : Nat) (regs : Fin 16 → Word) : Prop :=
  let c := s.ctx x
  let d := t.ctx x
  d.pc = pc ∧ (∀ k : Fin 16, d.reg k = regs k) ∧ d.cs = c.cs ∧ d.sig = c.sig ∧ d.st = c.stAfter ∧ d.wait = 0 ∧ d.port = c.port ∧
  d.fault = c.fault ∧ d.post = c.post ∧ d.posts = c.posts ∧ d.blitErr = c.blitErr

/-- Context `x` has faulted precisely (R430): PC and every register as they were, the cause, its PC and the address
recorded, CE_FAULTS counted and the event raised; memory and the other contexts are as before. -/
def State.Faulted (s t : State) (x : Fin 4) (cause addr : Nat) : Prop :=
  let c := s.ctx x
  let d := t.ctx x
  d.st = 3 ∧ d.pc = c.pc ∧ (∀ k : Fin 16, d.reg k = c.reg k) ∧ d.cs = c.cs ∧ d.fault = cause ∧ d.faultPc = c.pc ∧
  d.faultAddr = (if 2 ≤ cause ∧ cause ≤ 9 then addr else c.faultAddr) ∧ bitAt t.ev.pend 24 = true ∧
  t.getN 0x2B00 4 = satAdd maxU32 (s.getN 0x2B00 4) 1 ∧ t.mem = s.mem ∧ ∀ y, y ≠ x.val → t.ctx y = s.ctx y

/-- The bridge serves, nothing waits in its queue, and the frame's work is done by its last turnaround edge (R19). -/
def State.BridgeFree (s : State) (f : Frame) : Prop := s.queue = [] ∧ s.power.open_ = true ∧ s.power.run = true ∧ f.inTime = true

end Sys2Proof.Machine
end

