-- ==== Sys2Proof/Certificates/Slice0/Obligations.lean ====
section
/-! DEFINITION. The statements for the provers, one definition each; OBLIGATIONS.json lists them with the rules they rest on. -/
section
open Sys2Proof Sys2Proof.Machine

/-! ### The queue, the step, the whole machine -/

/-- A step carries out the command at the front of the queue on the state with the queue's rest. -/
def Obligations.StepTakesTheFrontCommand : Prop :=
  ∀ (c : Instr) (rest : List Instr) (s : State), s.pending = c :: rest → step s = exec c { s with pending := rest }

/-- On an empty queue time passes: one tick of TBC and of every lockout timer while the data plane runs, nothing while it is
stopped (the model's choice, log entry 1; R131, R449). -/
def Obligations.EmptyQueuePassesOneTick : Prop :=
  ∀ s : State, s.pending = [] →
    (s.power.run = false → step s = .next s) ∧
    (s.power.run = true → step s = .next { s with
      tbc := (s.tbc + 1) % 2 ^ 64, tenants := s.tenants.map (fun p => (p.1, { p.2 with lock := p.2.lock - 1 })) })

/-- Every command answers a next state and leaves the queue of waiting commands alone. -/
def Obligations.EveryCommandAnswersAndKeepsTheQueue : Prop :=
  ∀ (c : Instr) (s : State), ∃ t, exec c s = .next t ∧ t.pending = s.pending

/-- The invariant of every run is kept by every step: memory in canonical form, a 48-bit edge count (R12), a 64-bit TBC, logs
no longer than their size (R457, R464). -/
def Obligations.EveryStepKeepsTheInvariant : Prop :=
  ∀ s t : State, s.Inv → step s = .next t → t.Inv

/-- The invariant holds after reset. -/
def Obligations.ResetMeetsTheInvariant : Prop := State.reset.Inv

/-- What reset leaves, by the values the spec gives: EVENT_PENDING 0 and EVENT_MASK 0x7FFF_FFFF, the edge count 0, PW_STATE 1 in step 1
with PWR_EN0 high and the data plane stopped, DZ_TURNAROUND 16, no session, an empty staging store, an empty bridge queue, no
replay record, no storm, empty logs. -/
def Obligations.ResetLeavesTheSpecifiedValues : Prop :=
  let s := State.reset
  s.ev.pend = 0 ∧ s.getN 0x1401 0 = 0x7FFFFFFF ∧ s.sck = 0 ∧ s.getN 0x1500 1 = 1 ∧ s.getN 0x1500 2 = 1 ∧ s.power.enables = 1 ∧
  s.power.run = false ∧ s.getN 0x1101 1 = 16 ∧ s.openSessions = [] ∧ s.staging = [] ∧ s.queue = [] ∧ s.link.replay = none ∧
  s.link.storm = false ∧ s.ev.vlog = [] ∧ s.ev.audit = [] ∧ s.attnLow = false ∧ s.pending = []

/-- R37. The bus address and every other strap are sampled at the release of power-on reset and change by no other command;
DZ_ADDRESS reads the address; a manager takes it as its bus address: a frame for another manager passes it by, and nothing but the
edge count changes, no frame being open any more. -/
def Obligations.StrapsChangeOnlyAtReset : Prop :=
  (∀ (c : Instr) (s t : State), exec c s = .next t → (∀ st, c ≠ .porRelease st) → t.straps = s.straps) ∧
  (∀ (st : Straps) (s : State), s.power.held = true → ∃ t, exec (.porRelease st) s = .next t ∧ t.straps = st) ∧
  (∀ (s : State) (ten : Nat), s.view ten 0x1101 3 = .num s.straps.addr.toNat) ∧
  (∀ (f : Frame) (s : State), s.power.held = false → s.mgr = true → f.mgr.toNat < 32 → f.mgr.toNat ≠ s.straps.addr.toNat →
    f.len.toNat ≤ 4096 → exec (.write f) s = .next (s.selHigh.clock (112 + 8 * f.len.toNat + f.gap)))

/-! ### Requests that address no object -/

/-- POLL answers the oldest result of its tenant: complete, it is delivered and released at the settle edge; in progress, 0x08
with its echo byte; with nothing held, 0x00 with the POLL's own.
LOG_READ of the violation log answers the entries asked for, oldest first, and changes nothing else. -/
def Obligations.PollAndLogReadAnswerWhatIsHeld : Prop :=
  (∀ (f : Frame) (s : State), s.Executes 0 f → f.len = 0#16 →
      let mine := s.queue.filter (fun e => e.ten == f.ten.toNat && e.cue.isNone && !e.bcast)
      (mine = [] → exec (.nopPoll f) s = .next ((s.heard f).answered f 0 (echoOf 0 f) [] id)) ∧
      (∀ e rest q, mine = e :: rest → e.res = some q →
        exec (.nopPoll f) s = .next ((s.heard f).answered f q.status e.echo q.payload (fun t => { t with queue := t.queue.erase e }))) ∧
      (∀ e rest, mine = e :: rest → e.res = none →
        exec (.nopPoll f) s = .next ((s.heard f).answered f 8 e.echo [] id))) ∧
  (∀ (f : Frame) (s : State) (o : Obj), s.Executes 0xB f → f.len = 3#16 → f.index = 0x1410#16 → f.sub = 0#8 →
      findObj true 0x1410 0 = some o → (s.heard f).granted f.ten.toNat o false = true →
      exec (.logRead f) s = .next ((s.heard f).answered f 0 (echoOf 0xB f)
        ((((s.logEntries 0).drop (beAt f.payload 0 2)).take (if byteAt f.payload 2 = 0 then 256 else byteAt f.payload 2)).flatten) id))

/-- SESSION_OPEN with the code in force opens the tenant's session and zeroes its failure count at the settle edge, with an
audit record of kind 1; SESSION_CLOSE of a manager closes the named tenant's session there, with one of kind 5.
A wrong access code counts from edge E: the failure count rises by one, the eighth in a row starts a lockout of 60 s of
TBC, and the frame is answered 0x06. -/
def Obligations.SessionsOpenCloseAndLockOut : Prop :=
  ((∀ (f : Frame) (s : State), s.Executes 8 f → f.len = 16#16 → s.tenEnabled f.ten.toNat = true →
      f.payload = s.code f.ten.toNat →
      ∃ t, exec (.sessionOpen f) s = .next t ∧
        t.link.resp = some { status := 0, echo := echoOf 8 f, payload := [], full := true } ∧
        t.link.replay = some (echoOf 8 f, f.crc.toNat) ∧
        t.tenant f.ten.toNat = { s.tenant f.ten.toNat with session := true, fails := 0 } ∧
        (∀ u, u ≠ f.ten.toNat → t.tenant u = s.tenant u) ∧
        t.staging = s.staging ∧ t.queue = s.queue ∧ t.mem = s.mem) ∧
    (∀ (f : Frame) (s : State), s.Executes 9 f → f.len = 0#16 → (s.tenant f.ten.toNat).session = true →
      ∃ t, exec (.sessionClose f) s = .next t ∧
        t.link.resp = some { status := 0, echo := echoOf 9 f, payload := [], full := true } ∧
        t.link.replay = some (echoOf 9 f, f.crc.toNat) ∧
        t.tenant f.ten.toNat = { s.tenant f.ten.toNat with session := false } ∧
        (∀ u, u ≠ f.ten.toNat → t.tenant u = s.tenant u) ∧
        (f.ten = 0#8 → t.getN 0x1F20 0 = 0) ∧
        t.staging = s.staging ∧ t.queue = s.queue ∧ t.mem = s.mem)) ∧
  (∀ (f : Frame) (s : State), s.Executes 8 f → f.len = 16#16 → s.tenEnabled f.ten.toNat = true → f.payload ≠ s.code f.ten.toNat →
      ∃ t, exec (.sessionOpen f) s = .next t ∧
        t.link.resp = some { status := 6, echo := echoOf 8 f, payload := [], full := true } ∧
        t.link.replay = s.link.replay ∧
        (t.tenant f.ten.toNat).fails = (s.tenant f.ten.toNat).fails + 1 ∧
        ((s.tenant f.ten.toNat).fails = 7 → (t.tenant f.ten.toNat).lock = 60 * 27000000) ∧
        ((s.tenant f.ten.toNat).fails < 7 → (t.tenant f.ten.toNat).lock = 0) ∧
        (t.tenant f.ten.toNat).session = (s.tenant f.ten.toNat).session ∧
        (∀ u, u ≠ f.ten.toNat → t.tenant u = s.tenant u))

/-- EVENT_ACK of tenant 0 clears the bits named, but those set again meanwhile and WORKER_EVENT, a level, and nothing else.
DISCARD while the staged set is not frozen: tenant 0 empties the staging store, another tenant removes its own entries. -/
def Obligations.EventAckAndDiscardClearAtSettle : Prop :=
  (∀ (f : Frame) (late : BitVec 32) (s : State), s.Executes 0xC f → f.ten = 0#8 → f.len = 4#16 → (s.tenant 0).session = true →
      bitAt (ofBE f.payload) 31 = false →
      ∃ t, exec (.eventAck f late) s = .next t ∧
        t.link.resp = some { status := 0, echo := echoOf 0xC f, payload := [], full := true } ∧
        (∀ b, b < 31 → bitAt t.ev.pend b =
          (bitAt s.ev.pend b && !(bitAt (ofBE f.payload) b && !bitAt late.toNat b && b != 11))) ∧
        t.ev.record = s.ev.record ∧ t.ev.vlog = s.ev.vlog ∧ t.tenants = s.tenants ∧ t.staging = s.staging ∧ t.queue = s.queue) ∧
  (∀ (f : Frame) (s : State), s.Executes 0xE f → f.len = 0#16 → (s.tenant f.ten.toNat).session = true →
      (s.heard f).frozen = false →
      ∃ t, exec (.discard f) s = .next t ∧
        t.link.resp = some { status := 0, echo := echoOf 0xE f, payload := [], full := true } ∧
        t.link.replay = some (echoOf 0xE f, f.crc.toNat) ∧
        t.staging = (if f.ten = 0#8 then [] else s.staging.filter (fun e => e.ten != f.ten.toNat)) ∧
        t.tenants = s.tenants ∧ t.queue = s.queue ∧ t.mem = s.mem)

/-- SAVE, and a WRITE of ST_SAVE_NOW, of tenant 0 with its session open, while the data plane runs and no standby is asked for:
the request enters the bridge queue and is answered 0x08; with nothing before it and no Kickoff prepared the snapshot is taken at
once and ST_STATE reads 1. While the data plane is stopped SAVE is answered 0x0D and programs nothing (R16).
A save ends: with no sector failing, power good and room for the image, the new copy is the newest valid one, ST_STATE reads
0 and the request's result is 0x00; with a supply below its minimum it is 0x0D, the cause is 2, and the store is as it was. -/
def Obligations.SavesEnterTheQueueAndEndWithACopyOrACause : Prop :=
  (∀ (f g : Frame) (s : State) (o : Obj), s.power.run = true → s.power.stdbyAsked = false →
      (s.Executes 0xD f → f.ten = 0#8 → f.len = 0#16 → (s.tenant 0).session = true → s.HasRoom f →
        ∃ t, exec (.save f) s = .next t ∧ s.Queued t 0xD f .save ∧
          (s.queue = [] → s.power.open_ = true → s.mtp.saving = none → [2, 3, 4].contains (s.heard f).koState = false →
            t.getN 0x1510 1 = 1 ∧ t.mtp.saving.isSome = true)) ∧
      (g = atObject f 0x1510 0x0C → s.Executes 2 g → s.MayWrite g o → s.HasRoom g →
        ∃ t, exec (.stSaveNow f) s = .next t ∧ s.Queued t 2 g .save ∧
          (s.queue = [] → s.power.open_ = true → s.mtp.saving = none → [2, 3, 4].contains (s.heard g).koState = false →
            t.getN 0x1510 1 = 1 ∧ t.mtp.saving.isSome = true))) ∧
  (∀ (f : Frame) (s : State), s.power.run = false → s.Executes 0xD f → f.ten = 0#8 → f.len = 0#16 → (s.tenant 0).session = true →
    ∃ t, exec (.save f) s = .next t ∧ t.link.resp = some { status := 0x0D, echo := echoOf 0xD f, payload := [], full := true } ∧
      t.mtp = s.mtp ∧ t.queue = s.queue ∧ t.staging = s.staging ∧ t.tenants = s.tenants) ∧
  (∀ (bad : List (Fin 128)) (at_ : Nat) (s : State) (img : List Byte) (e : BEntry), s.mtp.saving = some img →
      s.queue = [e] → e.job = .save → e.res = none → e.cue = none → e.bcast = false →
      (∃ t, exec (.mtpSaveDone bad (some 0) at_) s = .next t ∧ t.mtp.saving = none ∧ t.getN 0x1510 1 = 0 ∧ t.getN 0x1510 9 = 2 ∧
        t.mtp.sectors = s.mtp.sectors ∧ t.queue = [{ e with res := some { status := 0x0D, payload := [] } }]) ∧
      (sectorPayloads img ≠ [] → (sectorPayloads img).length ≤ 56 → s.mtp.sectors = [] →
        ∃ t, exec (.mtpSaveDone [] none at_) s = .next t ∧ t.mtp.saving = none ∧ t.getN 0x1510 1 = 0 ∧
          t.queue = [{ e with res := some { status := 0, payload := [] } }] ∧
          (t.sector 0).marker = 1 ∧ (t.sector 0).seq = 1 ∧
          (List.range (sectorPayloads img).length).map (fun k => (t.sector k).data) = sectorPayloads img))

/-! ### Requests that address an object -/

/-- A READ of a control-plane object answers its value at edge E in link order; an RC object is reduced at the settle edge by what
the response carried; nothing else changes. -/
def Obligations.ReadAnswersTheValueAtEdgeE : Prop :=
  ∀ (f : Frame) (s : State) (o : Obj), s.Executes 1 f → f.len = 0#16 → f.index.toNat < 0x2000 →
    findObj true f.index.toNat f.sub.toNat = some o → o.d.ty.isDom = false → (s.heard f).granted f.ten.toNat o false = true →
    let v := (s.heard f).view f.ten.toNat f.index.toNat f.sub.toNat
    exec (.read f) s = .next ((s.heard f).answered f 0 (echoOf 1 f) (encodeVal o.d.ty v)
      (fun t => if o.d.acc == .rc then t.setN f.index.toNat f.sub.toNat (t.getN f.index.toNat f.sub.toNat - v.nat) else t))

/-- A WRITE of an RS object enters the staging store at the settle edge, a tag with an audit record of kind 9, and nothing else
changes; with no room it is answered 0x0E and counted in STG_REFUSALS. -/
def Obligations.WriteStagesAnRsValue : Prop :=
  ∀ (f : Frame) (s : State) (o : Obj), s.Executes 2 f → s.MayWrite f o → o.d.acc = .rs →
    let t := f.ten.toNat
    let v := decodeVal o.d.ty f.payload
    ((s.heard f).stageFull t o.idx o.sub = false →
      exec (.write f) s = .next ((s.heard f).answered f 0 (echoOf 2 f) [] (fun u =>
        (match o.tagValue v with
          | some own => (u.stage t o.idx o.sub v).audit 9 t own o.idx o.sub 0
          | none => u.stage t o.idx o.sub v).replayed 2 f))) ∧
    ((s.heard f).stageFull t o.idx o.sub = true →
      exec (.write f) s = .next ((s.heard f).answered f 0x0E (echoOf 2 f) [] (fun u => u.count 0x1F01 4)))

/-- The staging store holds one entry per object: staging a value puts it there for its writer and leaves every other
object's entry alone. -/
def Obligations.StagingHoldsOneEntryPerObject : Prop :=
  ∀ (s : State) (t i j : Nat) (v : Val),
    (s.stage t i j v).stagedAt i j = some { idx := i, sub := j, ten := t, val := v } ∧
    (∀ k l, (k, l) ≠ (i, j) → (s.stage t i j v).stagedAt k l = s.stagedAt k l)

/-- BLOCK_READ of a DOMAIN that is not the memory window answers the bytes of its active content from the offset, at most the
maximum asked for; BLOCK_WRITE of an RS DOMAIN lays its bytes over the content staged, or active where none is, and stages the
whole. Both with the bridge free and answered in time. -/
def Obligations.BlockTransfersReadAndStageDomains : Prop :=
  (∀ (f : Frame) (s : State) (o : Obj), s.Executes 3 f → f.len = 6#16 → findObj true f.index.toNat f.sub.toNat = some o →
    o.d.ty.isDom = true → f.index ≠ 0x2B09#16 → (s.heard f).granted f.ten.toNat o false = true →
    s.queue = [] → s.power.open_ = true → f.inTime = true →
    blockReserved f.payload = 0 → blockMode f.payload = false →
    0 < beAt f.payload 4 2 → beAt f.payload 4 2 ≤ 4096 →
    let l := ((s.heard f).view f.ten.toNat f.index.toNat f.sub.toNat).data
    blockOffset f.payload ≤ l.length →
    exec (.blockRead f) s = .next ((s.heard f).answered f 0 (echoOf 3 f)
      ((l.drop (blockOffset f.payload)).take (beAt f.payload 4 2)) id)) ∧
  (∀ (f : Frame) (s : State) (o : Obj), s.Executes 4 f → 5 ≤ f.len.toNat → findObj true f.index.toNat f.sub.toNat = some o →
    o.d.ty.isDom = true → o.d.acc = .rs → (s.heard f).granted f.ten.toNat o true = true → (s.heard f).frozen = false →
    (o.d.maint = true → (s.heard f).getN 0x1F20 0 ≠ 0) →
    s.queue = [] → s.power.open_ = true → f.inTime = true → blockReserved f.payload = 0 →
    let k := blockOffset f.payload
    let old := (s.heard f).domData f.ten.toNat o.idx o.sub true
    let new := if blockMode f.payload then old.take k ++ f.payload.drop 4
      else old.take k ++ f.payload.drop 4 ++ old.drop (k + (f.payload.drop 4).length)
    k ≤ old.length → k + (f.payload.drop 4).length ≤ o.d.ty.domMax → new.length ≤ o.d.ty.domMax →
    o.inRng true (.bytes new) = true →
    (s.heard f).stageFull f.ten.toNat o.idx o.sub = false →
    exec (.blockWrite f) s = .next (((s.heard f).stage f.ten.toNat o.idx o.sub (.bytes new)).answered f 0 (echoOf 4 f) []
      (fun t => t.replayed 4 f)))

/-! ### WRITEs of control-plane objects with a row of their own -/

/-- KO_EPOCH and WH_EPOCH: the tenant's own standing epoch, at the settle edge, and nothing else.
KO_ABANDON in state 1 or 2: KO_STATE becomes 7, the Kickoff is gone, and KICKOFF_REFUSED is pending.
WD_HOST_S: the watchdog counts anew from the settle edge, armed unless the value is 0. -/
def Obligations.ControlWritesTakeEffectAtSettle : Prop :=
  (∀ (f g : Frame) (s : State) (o : Obj), s.Executes 2 g → s.MayWrite g o →
      (g = atObject f 0x1F00 1 → exec (.koEpochWrite f) s = .next ((s.heard g).answered g 0 (echoOf 2 g) [] (fun t =>
        (t.setTenant f.ten.toNat { t.tenant f.ten.toNat with koEpoch := ofBE f.payload }).replayed 2 g))) ∧
      (g = atObject f 0x1F08 1 → exec (.whEpochWrite f) s = .next ((s.heard g).answered g 0 (echoOf 2 g) [] (fun t =>
        (t.setTenant f.ten.toNat { t.tenant f.ten.toNat with whEpoch := ofBE f.payload }).replayed 2 g)))) ∧
  (∀ (f g : Frame) (s : State) (o : Obj), g = atObject f 0x1F00 5 → s.Executes 2 g → s.MayWrite g o →
      s.koState = 1 ∨ s.koState = 2 →
      ∃ t, exec (.koAbandon f) s = .next t ∧ t.getN 0x1F00 2 = 7 ∧ t.kick = none ∧ bitAt t.ev.pend 14 = true ∧
        t.link.resp = some { status := 0, echo := echoOf 2 g, payload := [], full := true } ∧
        t.staging = s.staging ∧ t.tenants = s.tenants) ∧
  (∀ (f g : Frame) (s : State) (o : Obj), g = atObject f 0x1440 1 → s.Executes 2 g → s.MayWrite g o →
      ∃ t, exec (.wdHostSWrite f) s = .next t ∧ t.getN 0x1440 1 = ofBE f.payload ∧ t.ev.lastOk = t.tbc ∧
        t.ev.hostArmed = (ofBE f.payload != 0) ∧ t.staging = s.staging ∧ t.tenants = s.tenants ∧ t.queue = s.queue)

/-- Access codes: TN_CODE_HI waits; TN_CODE_LO puts the new 16-byte code in force; TN_ENABLE 0 closes the tenant's session, and so
does a new code written by another tenant; no other tenant's state changes. -/
def Obligations.TenantCodesAndEnablesTakeEffectAtSettle : Prop :=
  ∀ (u : Fin 128) (f g : Frame) (s : State) (o : Obj), s.Executes 2 g → s.MayWrite g o →
    (g = atObject f (0x1380 + u) 2 → exec (.tnCodeHi u f) s = .next ((s.heard g).answered g 0 (echoOf 2 g) [] (fun t =>
      (t.setTenant u { t.tenant u with pendHi := some (ofBE f.payload) }).replayed 2 g))) ∧
    (g = atObject f (0x1380 + u) 3 → ∀ hi, (s.tenant u).pendHi = some hi → hi < 2 ^ 64 →
      ∃ t, exec (.tnCodeLo u f) s = .next t ∧ t.code u = toBE 8 hi ++ toBE 8 (ofBE f.payload) ∧
        (t.tenant u).pendHi = none ∧ (t.tenant u).session = ((s.tenant u).session && (f.ten.toNat == u.val)) ∧
        (∀ w, w ≠ u.val → t.tenant w = s.tenant w) ∧ t.staging = s.staging ∧ t.queue = s.queue) ∧
    (g = atObject f (0x1380 + u) 1 →
      ∃ t, exec (.tnEnableWrite u f) s = .next t ∧ t.getN (0x1380 + u) 1 = ofBE f.payload ∧
        (t.tenant u).session = ((s.tenant u).session && !(ofBE f.payload == 0)) ∧
        (∀ w, w ≠ u.val → t.tenant w = s.tenant w) ∧ t.staging = s.staging ∧ t.queue = s.queue)

/-- Triggers that the bridge carries out: ST_ERASE_IMAGE, LW_NEIGHBOUR_TEST, MR_PROGRAM of a record that is not refused, and
PW_STANDBY, which also marks the request; each enters the queue and is answered 0x08.
SUB_ACTION 1 and 2 for a present worker, with room for the mirror: the action waits in the bridge queue for the worker's
answer; for an absent worker its result is 0x0A. -/
def Obligations.TriggersAndSubscriptionActionsEnterTheBridgeQueue : Prop :=
  (∀ (f g : Frame) (s : State) (o : Obj), s.Executes 2 g → s.MayWrite g o → s.HasRoom g →
      (g = atObject f 0x1510 0x0B → ∃ t, exec (.stEraseImage f) s = .next t ∧ s.Queued t 2 g .erase) ∧
      (g = atObject f 0x2860 9 → ∃ t, exec (.lwNeighbourTest f) s = .next t ∧ s.Queued t 2 g .neighbourTest) ∧
      (g = atObject f 0x2906 1 → (s.heard g).repairRefuses (ofBE f.payload) = false →
        ∃ t, exec (.mrProgram f) s = .next t ∧ s.Queued t 2 g (.mrProgram (ofBE f.payload))) ∧
      (g = atObject f 0x1500 3 → s.power.stdbyAsked = false → s.pwState ≠ 3 → s.pwState ≠ 4 →
        ∃ t, exec (.pwStandby f) s = .next t ∧ s.Queued t 2 g .standby ∧ t.power = { s.power with stdbyAsked := true })) ∧
  (∀ (f g : Frame) (s : State) (o : Obj) (add : Bool),
      g = { atObject f 0x1220 3 with len := 1#16, payload := [if add then 1#8 else 2#8] } →
      s.Executes 2 g → s.MayWrite g o → s.HasRoom g →
      let x := s.tenant f.ten.toNat
      let c := if add then Instr.subActionAdd f else Instr.subActionRemove f
      (s.power.run = true → s.spans.members.any (fun m => m.addr == x.subWorker) = true →
        (add = true → s.spans.mirrors.length < 65536) →
        ∃ t, exec c s = .next t ∧ s.Queued t 2 g (.subAct add x.subWorker (x.subTarget / 256 % 65536) (x.subTarget % 256))) ∧
      (s.power.run = true → s.spans.members.any (fun m => m.addr == x.subWorker) = false →
        ∃ t, exec c s = .next t ∧ (t.tenant f.ten.toNat).subResult = 0x0A ∧
          t.link.resp = some { status := 8, echo := echoOf 2 g, payload := [], full := true }))

/-! ### The link when it goes wrong, and the watchdogs -/

/-- DZ_SEL rises after edge E of an RS write and before its settle edge: nothing is staged, the replay record stands, and the
violation is counted; the response is whole only if it had ended. DZ_SEL rises within the request: it is discarded unanswered.
Type 0xF is answered 0x02 and logged with cause 0x03; eight bits that are not SYNC are logged with cause 0x01 and answered
nothing; neither executes anything.
Sixty-four edges with DZ_SEL high end the CRC-storm state of a manager, and change nothing else but the edge count, no frame
being open any more; between the frames that a worker takes as strobe edges no edge passes. That a run of CRC failures starts
from 0 again after the storm is the model's choice, log entry 114. -/
def Obligations.BrokenFramesAreLoggedAndStormsEnd : Prop :=
  ((∀ (f : Frame) (edge : Nat) (s : State) (o : Obj), s.Executes 2 f → s.MayWrite f o → o.d.acc = .rs →
      (s.heard f).stageFull f.ten.toNat o.idx o.sub = false →
      let E := 112 + 8 * f.len.toNat
      let F := E + s.getN 0x1101 1 + 72
      E < edge → edge ≤ F + 12 →
      ∃ t, exec (.dzSelEarlyRise 2 f edge) s = .next t ∧ t.staging = s.staging ∧ t.link.replay = s.link.replay ∧
        t.tenants = s.tenants ∧ t.queue = s.queue ∧
        t.link.resp = some { status := 0, echo := echoOf 2 f, payload := [], full := decide (F ≤ edge) } ∧
        t.getN 0x1102 3 = satAdd maxU32 (s.getN 0x1102 3) 1 ∧ t.sck = (s.sck + edge + f.gap) % 2 ^ 48) ∧
    (∀ (ty : Fin 16) (f : Frame) (edge : Nat) (s : State), s.Takes ty f → 16 < edge → edge ≤ 112 + 8 * f.len.toNat →
      ∃ t, exec (.dzSelEarlyRise ty f edge) s = .next t ∧ t.staging = s.staging ∧ t.link = s.selHigh.link ∧
        t.tenants = s.tenants ∧ t.queue = s.queue ∧ t.getN 0x1102 3 = satAdd maxU32 (s.getN 0x1102 3) 1 ∧ t.sck = (s.sck + edge + f.gap) % 2 ^ 48)) ∧
  ((∀ (f : Frame) (s : State), s.Takes 15 f →
      ∃ t, exec (.reservedTypeFrame f) s = .next t ∧
        t.link.resp = some { status := 2, echo := echoOf 15 f, payload := [], full := true } ∧
        t.link.replay = s.link.replay ∧ (t.ev.vlog.getLast?.map (fun e => byteAt e 8)) = some 3 ∧ bitAt t.ev.pend 2 = true ∧
        t.getN 0x1102 3 = satAdd maxU32 (s.getN 0x1102 3) 1 ∧
        t.staging = s.staging ∧ t.tenants = s.tenants ∧ t.queue = s.queue ∧ t.mem = s.mem) ∧
    (∀ (b : BitVec 8) (n : Nat) (s : State), s.power.held = false → s.mgr = true → s.straps.linkmode ≠ 3#2 → b ≠ 0x7E#8 → 8 ≤ n →
      ∃ t, exec (.badSyncFrame b n) s = .next t ∧ t.link = s.selHigh.link ∧ t.sck = (s.sck + n) % 2 ^ 48 ∧
        (t.ev.vlog.getLast?.map (fun e => byteAt e 8)) = some 1 ∧ bitAt t.ev.pend 2 = true ∧
        t.getN 0x1102 3 = satAdd maxU32 (s.getN 0x1102 3) 1 ∧
        t.staging = s.staging ∧ t.tenants = s.tenants ∧ t.queue = s.queue ∧ t.mem = s.mem)) ∧
  (∀ s : State,
      (s.power.held = false → s.mgr = true →
        (s.link.storm = true → exec .crcStormExit s =
          .next { s with sck := (s.sck + 64) % 2 ^ 48, link := { s.selHigh.link with storm := false, crcRun := 0 } }) ∧
        (s.link.storm = false → exec .crcStormExit s = .next { s.selHigh with sck := (s.sck + 64) % 2 ^ 48 })) ∧
      (s.mgr = false → exec .crcStormExit s = .next s))

/-- The watchdogs: a frame open for 1 s raises FRAME_OPEN, counts and is logged with cause 0x0E outside a storm, once; host silence
raises its event, counts, and sets signal bit 15 of all four contexts, once; a lockout runs out at its instant of TBC. -/
def Obligations.WatchdogsRaiseTheirEvents : Prop :=
  (∀ (got : List Byte) (at_ : Nat) (s : State), s.power.run = true → s.mgr = true → s.link.openSeen = false → got.length ≤ 1 → at_ ≤ s.tbc →
    ∃ t, exec (.frameOpenWatchdog got at_) s = .next t ∧ bitAt t.ev.pend 3 = true ∧
      t.getN 0x1440 3 = satAdd maxU32 (s.getN 0x1440 3) 1 ∧ (t.ev.vlog.getLast?.map (fun e => byteAt e 8)) = some 0x0E ∧
      t.link = { s.link with openSeen := true } ∧ t.sck = s.sck ∧ t.tenants = s.tenants ∧ t.staging = s.staging ∧ t.queue = s.queue) ∧
  (∀ s : State, s.power.run = true → s.ev.hostArmed = true → s.getN 0x1440 1 ≠ 0 →
    ∃ t, exec .hostSilenceWatchdog s = .next t ∧ bitAt t.ev.pend 30 = true ∧ t.ev.hostArmed = false ∧
      (∀ x : Fin 4, bitAt (t.ctx x).sig 15 = true) ∧ (∀ x : Fin 4, (t.ctx x).pc = (s.ctx x).pc) ∧
      t.link = s.link ∧ t.staging = s.staging ∧ t.queue = s.queue ∧ t.mem = s.mem) ∧
  (∀ (u : Fin 128) (s : State), s.power.run = true → 0 < (s.tenant u).lock →
    exec (.lockoutExpiry u) s = .next { s with
      tbc := (s.tbc + (s.tenant u).lock) % 2 ^ 64,
      tenants := s.tenants.map (fun p => (p.1, { p.2 with lock := p.2.lock - (s.tenant u).lock })) })

/-- A READ that waits in the bridge is carried out: its result is latched, held for its tenant, and DEFERRED_READY is set. -/
def Obligations.BridgeCompletesAWaitingRead : Prop :=
  ∀ (at_ : Nat) (s : State) (e : BEntry) (o : Obj) (idx sub : Nat), s.power.open_ = true → s.mgr = true → s.straps.worker = false →
    s.queue = [e] → e.res = none → e.cue = none → e.bcast = false → e.job = .read idx sub → sub ≠ 0xFF →
    findObj true idx sub = some o → o.d.acc ≠ .rc → at_ ≤ s.tbc →
    ∃ t, exec (.bridgeComplete at_) s = .next t ∧
      t.queue = [{ e with res := some { status := 0, payload := encodeVal o.d.ty (s.view e.ten idx sub) } }] ∧
      bitAt t.ev.pend 0 = true ∧ t.objs = s.objs ∧ t.mem = s.mem ∧ t.staging = s.staging ∧ t.tenants = s.tenants ∧ t.link = s.link

/-! ### Power, reset and start-up -/

/-- Power-on reset clears every state of the device but the MTP store, which it leaves as it is unless a save is under way, and
the fuses; its release samples the straps and
starts from the reset values with PWR_EN0 high.
The rail groups come up in order: a good group raises the next, the fourth ends step 1, and a hot die after group 0 holds the
start in PW_STATE 6 until it has cooled to T_max − 5 °C. -/
def Obligations.PowerComesUpGroupByGroup : Prop :=
  ((∀ s : State, ∃ t, exec .powerOnReset s = .next t ∧ t.power.held = true ∧ t.power.enables = 0 ∧ t.tenants = [] ∧
      t.staging = [] ∧ t.queue = [] ∧ t.objs = [] ∧ t.mem = [] ∧ t.link = {} ∧ t.ev = {} ∧ t.sck = 0 ∧ t.tbc = 0 ∧
      (s.mtp.saving = none → t.mtp.sectors = s.mtp.sectors) ∧ t.bank.customer = s.bank.customer ∧ t.bank.factory = s.bank.factory ∧
      t.straps = s.straps) ∧
    (∀ (st : Straps) (s : State), s.power.held = true →
      exec (.porRelease st) s = .next { State.resetWith st with bank := s.bank, mtp := s.mtp, seed := s.seed, pending := s.pending })) ∧
  ((∀ (g : Fin 4) (die : Int) (s : State), s.powering = true → s.power.enables = 2 ^ (g.val + 1) - 1 → s.getBit 0x1500 9 g = false →
      ∃ t, exec (.railGroupGood g die) s = .next t ∧ t.getBit 0x1500 9 g = true ∧
        (g = 0 → s.coolLimit < die → t.getN 0x1500 1 = 6 ∧ t.power.dieHold = true ∧ t.power.enables = 1) ∧
        (g = 0 → die ≤ s.coolLimit → t.power.enables = 3) ∧ (g = 1 → t.power.enables = 7) ∧ (g = 2 → t.power.enables = 15) ∧
        (g = 3 → t.getN 0x1500 2 = 2 ∧ t.power.enables = 15) ∧
        t.tbc = s.tbc ∧ t.tenants = s.tenants ∧ t.staging = s.staging ∧ t.mem = s.mem) ∧
    (∀ (die : Int) (s : State), s.power.dieHold = true → die ≤ s.coolLimit →
      ∃ t, exec (.startDieHoldRelease die) s = .next t ∧ t.power.dieHold = false ∧ t.power.enables = 3 ∧
        t.getN 0x1500 1 = (if s.power.kind = 3 then 5 else 1)))

/-- A start with every rail good and a good fuse copy ends with the data plane running and the bridge open, TBC having gone on
from where it stood.
The enable instant ends step 10: PW_STATE 2, PW_STEP 0, and the device is past its enable instant. -/
def Obligations.StartsOpenTheBridgeAndEnableThePorts : Prop :=
  (∀ (i : StartInfo) (s : State), s.powering = true → s.power.enables = 15 → s.getN 0x1500 9 = 15 → s.power.tripped = false →
      s.power.xoLost = false → i.copyA = true ∨ i.copyB = true →
      ∃ t, exec (.dataPlaneStart i) s = .next t ∧ t.power.run = true ∧ t.power.open_ = true ∧ t.tbc = s.tbc ∧ t.sck = s.sck ∧
        bitAt t.ev.pend 1 = true) ∧
  (∀ (at_ : Nat) (s : State), s.mgr = true → s.power.open_ = true → s.power.dramOk = true → s.power.neighbourOk = true →
      s.power.enabled = false →
      ∃ t, exec (.enableInstant at_) s = .next t ∧ t.power.enabled = true ∧ t.getN 0x1500 1 = 2 ∧ t.getN 0x1500 2 = 0 ∧
        t.straps = s.straps ∧ t.sck = s.sck)

/-- What stops the data plane: loss of the XO, a rail fault (every enable falls, RAM is lost, the third restart within 60 s of TBC
leaves PW_STATE 7), a thermal trip; and how each is left. -/
def Obligations.FaultsStopTheDataPlane : Prop :=
  (∀ (at_ : Nat) (s : State), s.power.run = true →
    ∃ t, exec (.xoLoss at_) s = .next t ∧ t.power.run = false ∧ t.power.open_ = false ∧ t.power.xoLost = true ∧
      t.getN 0x1500 1 = 1 ∧ t.getN 0x1500 2 = 2 ∧ t.getN 0x1500 6 = 4 ∧ t.sck = s.sck ∧ t.staging = s.staging) ∧
  (∀ s : State, exec .xoRestart s = .next { s with power := { s.power with xoLost := false } }) ∧
  (∀ (g : Fin 4) (at_ : Nat) (s : State), s.power.held = false → bitAt s.power.enables g = true →
    ∃ t, exec (.railFault g at_) s = .next t ∧ t.power.run = false ∧ t.power.enables = 0 ∧ t.power.railWait = true ∧
      t.getN 0x1500 9 = 0 ∧ t.mem = [] ∧ t.getN 0x1500 2 = 1 ∧
      t.getN 0x1500 1 = (if 3 ≤ (s.power.railAt.filter (fun a => decide (t.tbc < a + 60 * 27000000))).length then 7 else 1)) ∧
  (∀ s : State, s.power.railWait = true → s.pwState ≠ 7 →
    ∃ t, exec .railFaultRestart s = .next t ∧ t.power.enables = 1 ∧ t.power.railWait = false ∧ t.getN 0x1500 1 = 1 ∧
      t.getN 0x1500 2 = 1 ∧ t.power.railAt = s.power.railAt ++ [s.tbc] ∧ t.mem = s.mem ∧ t.tenants = s.tenants)

/-- The die sensor: warning at T_max, trip at 125 °C with the data plane stopped, restart at or below 100 °C, and the warning
cleared at T_max − 5 °C. -/
def Obligations.DieSensorStatesFollowItsLimits : Prop :=
  (∀ (die : Int) (at_ : Nat) (s : State), s.dieSeen = true → s.dtState = 0 → Int.ofNat s.straps.grade ≤ die →
    ∃ t, exec (.thermalWarning die at_) s = .next t ∧ t.dtState = 1 ∧ bitAt t.ev.pend 29 = true ∧ t.power = { s.power with die := die } ∧
      t.staging = s.staging ∧ t.mem = s.mem) ∧
  (∀ (die : Int) (at_ : Nat) (s : State), s.dieSeen = true → s.dtState ≠ 2 → 1250 ≤ die →
    ∃ t, exec (.thermalTrip die at_) s = .next t ∧ t.dtState = 2 ∧ bitAt t.ev.pend 29 = true ∧ t.power.run = false ∧
      t.power.tripped = true ∧ t.getN 0x1500 6 = 3 ∧ t.staging = s.staging) ∧
  (∀ (die : Int) (s : State), s.power.tripped = true → die ≤ 1000 →
    ∃ t, exec (.thermalRestart die) s = .next t ∧ t.power.tripped = false ∧
      t.dtState = (if s.coolLimit < die then 1 else 0) ∧ t.tenants = s.tenants ∧ t.mem = s.mem) ∧
  (∀ (die : Int) (at_ : Nat) (s : State), s.dieSeen = true → s.dtState = 1 → die ≤ s.coolLimit →
    ∃ t, exec (.thermalWarningClear die at_) s = .next t ∧ t.dtState = 0 ∧ t.ev = s.ev ∧ t.staging = s.staging ∧ t.mem = s.mem)

/-- Standby and leaving it: a snapshot that fits is written and the groups fall, PW_STATE 4; a manager's PW_WAKE, served by the
control plane at the settle edge, or energy on a worker's span port, starts the device again from step 1 in PW_STATE 5. In any
other PW_STATE a 0x01 to PW_WAKE does nothing and is answered 0x00; a 0x00 is answered 0x07 in every state (R492). PW_DP_RESET
restarts a running data plane at step 2. -/
def Obligations.StandbyIsEnteredAndLeft : Prop :=
  (∀ (at_ : Nat) (s : State) (e : BEntry), s.power.run = true → s.power.open_ = true → s.pwState = 2 → s.queue = [e] → e.job = .standby →
    e.res = none → e.cue = none → e.bcast = false → (∀ x : Fin 4, (s.ctx x).port = none) → at_ ≤ s.tbc →
    s.snapshot.length ≤ s.getN 0x1501 2 →
    ∃ t, exec (.standbyEntry at_) s = .next t ∧ t.power.run = false ∧ t.power.open_ = false ∧ t.power.enables = 0 ∧
      t.power.kind = 3 ∧ t.getN 0x1500 1 = 4 ∧ t.getN 0x1500 9 = 0 ∧ t.getN 0x1500 6 = 6 ∧
      (t.queue.map (fun d => d.res)) = [some { status := 0, payload := [] }] ∧
      (∀ c ∈ t.mem, inRange c.1 sramBase 0x400000 = true)) ∧
  (∀ (f g : Frame) (s : State) (o : Obj), g = atObject f 0x1500 4 → s.Executes 2 g → s.MayWrite g o → s.pwState = 4 →
    ∃ t, exec (.pwWake f) s = .next t ∧ t.getN 0x1500 1 = 5 ∧ t.getN 0x1500 2 = 1 ∧ t.power.enables = 1 ∧
      t.link.resp = some { status := 0, echo := echoOf 2 g, payload := [], full := true } ∧ t.staging = s.staging) ∧
  (∀ (f g : Frame) (s : State) (o : Obj), g = atObject f 0x1500 4 → s.Executes 2 g → s.MayWrite g o → s.pwState ≠ 4 →
    exec (.pwWake f) s = .next ((s.heard g).answered g 0 (echoOf 2 g) [] (fun t => t.replayed 2 g))) ∧
  (∀ (f : Frame) (s : State) (o : Obj), s.Executes 2 f → f.index = 0x1500#16 → f.sub = 4#8 → f.payload = [0#8] →
    (s.tenant f.ten.toNat).session = true → findObj true 0x1500 4 = some o → s.admits f.ten.toNat o true = true →
    exec (.write f) s = .next ((s.heard f).answered f 7 (echoOf 2 f) [] id)) ∧
  (∀ (p : Fin 4) (s : State), s.mgr = false → s.pwState = 4 →
    ∃ t, exec (.spanEnergyWake p) s = .next t ∧ t.getN 0x1500 1 = 5 ∧ t.getN 0x1500 2 = 1 ∧ t.power.enables = 1 ∧
      t.staging = s.staging ∧ t.mem = s.mem) ∧
  (∀ (f g : Frame) (s : State) (o : Obj), g = atObject f 0x1500 5 → s.Executes 2 g → s.MayWrite g o → s.power.run = true →
    s.power.enables = 15 → s.pwState = 2 →
    ∃ t, exec (.pwDpReset f) s = .next t ∧ t.power.run = false ∧ t.getN 0x1500 1 = 1 ∧ t.getN 0x1500 2 = 2 ∧ t.getN 0x1500 6 = 2 ∧
      t.link.resp = some { status := 0, echo := echoOf 2 g, payload := [], full := true } ∧ t.staging = s.staging ∧ t.tenants = s.tenants)

/-! ### The cue engine -/

/-- The register instructions: rd takes the result, PC moves to the next instruction, and nothing else changes; a write to c0 is
discarded. -/
def Obligations.RegisterInstructionsWriteTheirResult : Prop :=
  ∀ (x : Fin 4) (rd ra rb : Fin 16) (s : State), s.issues x = true →
    let c := s.ctx x
    let a := c.reg ra
    let b := c.reg rb
    let n := b.toNat % 64
    let R := fun (i : Instr) (v : Word) => ∃ t, exec i s = .next t ∧ s.CueOnly t x ∧ s.Ran t x ((c.pc + 4) % 2 ^ 36) (c.wrote rd v)
    R (.add x rd ra rb) (a + b) ∧ R (.sub x rd ra rb) (a - b) ∧ R (.and x rd ra rb) (a &&& b) ∧ R (.or x rd ra rb) (a ||| b) ∧
    R (.xor x rd ra rb) (a ^^^ b) ∧ R (.shl x rd ra rb) (a <<< n) ∧ R (.shr x rd ra rb) (a >>> n) ∧
    R (.sra x rd ra rb) (a.sshiftRight n) ∧ R (.mul x rd ra rb) (a * b) ∧
    R (.sltu x rd ra rb) (if a.toNat < b.toNat then 1#64 else 0#64) ∧ R (.slt x rd ra rb) (if a.toInt < b.toInt then 1#64 else 0#64)

/-- The immediate instructions: ADDI, SLTIU and SLTI extend their immediate by its sign, the logical ones by zeros; the shifts take
0 to 63; MOVK replaces one 16-bit field. -/
def Obligations.ImmediateInstructionsWriteTheirResult : Prop :=
  ∀ (x : Fin 4) (rd ra : Fin 16) (imm : BitVec 16) (n : Fin 64) (k : Fin 4) (s : State), s.issues x = true →
    let c := s.ctx x
    let a := c.reg ra
    let i := imm.signExtend 64
    let z := imm.setWidth 64
    let R := fun (i : Instr) (v : Word) => ∃ t, exec i s = .next t ∧ s.CueOnly t x ∧ s.Ran t x ((c.pc + 4) % 2 ^ 36) (c.wrote rd v)
    R (.addi x rd ra imm) (a + i) ∧ R (.andi x rd ra imm) (a &&& z) ∧ R (.ori x rd ra imm) (a ||| z) ∧ R (.xori x rd ra imm) (a ^^^ z) ∧
    R (.shli x rd ra n) (a <<< n.val) ∧ R (.shri x rd ra n) (a >>> n.val) ∧ R (.srai x rd ra n) (a.sshiftRight n.val) ∧
    R (.sltiu x rd ra imm) (if a.toNat < i.toNat then 1#64 else 0#64) ∧ R (.slti x rd ra imm) (if a.toInt < i.toInt then 1#64 else 0#64) ∧
    (∃ t, exec (.movk x rd imm k) s = .next t ∧ s.CueOnly t x ∧ (t.ctx x).pc = (c.pc + 4) % 2 ^ 36 ∧
      (∀ j : Fin 16, j ≠ rd ∨ j = 0 → (t.ctx x).reg j = c.reg j) ∧
      (rd ≠ 0 → ∀ j : Fin 4, ((t.ctx x).reg rd).extractLsb' (16 * j.val) 16 = if j = k then imm else (c.reg rd).extractLsb' (16 * j.val) 16))

/-- Loads and stores: a misaligned address faults with cause 0x05, one above 36 bits with 0x06; otherwise the access goes out on
M12 under the context's tenant; an OKAY read fills rd with the bytes, zero-extended, and an OKAY write leaves the memory that the
crossbar's write leaves; any other response faults. Nothing else of the cue engine changes.
XCHG reads 8 bytes and writes rb's value in their place in one locked sequence, and rd takes what was read. -/
def Obligations.LoadsStoresAndSwapsGoThroughM12 : Prop :=
  (∀ (x : Fin 4) (rd ra : Fin 16) (imm : BitVec 16) (s : State), s.issues x = true →
      let c := s.ctx x
      let a := (c.reg ra + imm.signExtend 64).toNat
      let ten := s.ctxTen x
      let L := fun (i : Instr) (n : Nat) =>
        (2 ^ 36 ≤ a → ∃ t, exec i s = .next t ∧ s.Faulted t x 6 a) ∧
        (a < 2 ^ 36 → a % n ≠ 0 → ∃ t, exec i s = .next t ∧ s.Faulted t x 5 a) ∧
        (a < 2 ^ 36 → a % n = 0 → (s.xbRead 12 ten a n).2.code = 0 →
          ∃ t, exec i s = .next t ∧ t = { (s.xbRead 12 ten a n).1 with cue := t.cue } ∧
            (∀ k : Fin 16, (t.ctx x).reg k = c.wrote rd (BitVec.ofNat 64 (ofLE (s.xbRead 12 ten a n).2.data)) k) ∧
            (t.ctx x).pc = (c.pc + 4) % 2 ^ 36 ∧ ∀ y, y ≠ x.val → t.ctx y = s.ctx y)
      let S := fun (i : Instr) (n : Nat) =>
        let w := s.xbWrite 12 ten a (toLE n (c.reg rd).toNat)
        (2 ^ 36 ≤ a → ∃ t, exec i s = .next t ∧ s.Faulted t x 6 a) ∧
        (a < 2 ^ 36 → a % n ≠ 0 → ∃ t, exec i s = .next t ∧ s.Faulted t x 5 a) ∧
        (a < 2 ^ 36 → a % n = 0 → w.2.code = 0 →
          ∃ t, exec i s = .next t ∧ t = { w.1 with cue := t.cue } ∧ (∀ k : Fin 16, (t.ctx x).reg k = c.reg k) ∧
            (t.ctx x).pc = (c.pc + 4) % 2 ^ 36 ∧ ∀ y, y ≠ x.val → t.ctx y = s.ctx y)
      L (.lb x rd ra imm) 1 ∧ L (.lh x rd ra imm) 2 ∧ L (.lw x rd ra imm) 4 ∧ L (.ld x rd ra imm) 8 ∧
      S (.sb x rd ra imm) 1 ∧ S (.sh x rd ra imm) 2 ∧ S (.sw x rd ra imm) 4 ∧ S (.sd x rd ra imm) 8) ∧
  (∀ (x : Fin 4) (rd ra rb : Fin 16) (s : State), s.issues x = true →
      let c := s.ctx x
      let a := (c.reg ra).toNat
      let r := s.xbRead 12 (s.ctxTen x) a 8
      let w := r.1.xbWrite 12 (s.ctxTen x) a (toLE 8 (c.reg rb).toNat)
      (a < 2 ^ 36 → a % 8 = 0 → s.lockInvalid [(a, 8)] = false → r.2.code = 0 → w.2.code = 0 →
        ∃ t, exec (.xchg x rd ra rb false) s = .next t ∧ t = { w.1 with cue := t.cue } ∧
          (∀ k : Fin 16, (t.ctx x).reg k = c.wrote rd (BitVec.ofNat 64 (ofLE r.2.data)) k) ∧
          (t.ctx x).pc = (c.pc + 4) % 2 ^ 36 ∧ ∀ y, y ≠ x.val → t.ctx y = s.ctx y) ∧
      (a < 2 ^ 36 → a % 8 ≠ 0 → ∃ t, exec (.xchg x rd ra rb false) s = .next t ∧ s.Faulted t x 5 a))

/-- Branches and jumps: a branch whose condition holds goes to PC + 4 × offset, any other to the next instruction; JAL and JALR write
PC + 4 to rd, and JALR takes its target before that; a taken one discards the prefetch buffer; a target above 36 bits, or misaligned,
faults. -/
def Obligations.BranchesAndJumpsSetThePc : Prop :=
  ∀ (x : Fin 4) (rd ra rb : Fin 16) (imm : BitVec 16) (off : BitVec 20) (s : State), s.issues x = true →
    let c := s.ctx x
    let a := c.reg ra
    let b := c.reg rb
    let dest := (BitVec.ofNat 64 c.pc + (imm.signExtend 64 <<< 2)).toNat
    let far := (BitVec.ofNat 64 c.pc + (off.signExtend 64 <<< 2)).toNat
    let reg := (a + imm.signExtend 64).toNat
    let link := BitVec.ofNat 64 ((c.pc + 4) % 2 ^ 36)
    let B := fun (i : Instr) (p : Bool) =>
      (p = false → ∃ t, exec i s = .next t ∧ s.CueOnly t x ∧ s.Ran t x ((c.pc + 4) % 2 ^ 36) (fun k => c.reg k)) ∧
      (p = true → dest % 4 = 0 → dest < 2 ^ 36 → ∃ t, exec i s = .next t ∧ s.CueOnly t x ∧ s.Ran t x dest (fun k => c.reg k) ∧ (t.ctx x).buf = []) ∧
      (p = true → dest % 4 = 0 → 2 ^ 36 ≤ dest → ∃ t, exec i s = .next t ∧ s.Faulted t x 6 dest)
    B (.beq x ra rb imm) (a == b) ∧ B (.bne x ra rb imm) (a != b) ∧ B (.blt x ra rb imm) (decide (a.toInt < b.toInt)) ∧
    B (.bge x ra rb imm) (decide (b.toInt ≤ a.toInt)) ∧ B (.bltu x ra rb imm) (decide (a.toNat < b.toNat)) ∧
    B (.bgeu x ra rb imm) (decide (b.toNat ≤ a.toNat)) ∧
    (far % 4 = 0 → far < 2 ^ 36 → ∃ t, exec (.jal x rd off) s = .next t ∧ s.CueOnly t x ∧ s.Ran t x far (c.wrote rd link) ∧ (t.ctx x).buf = []) ∧
    (reg % 4 = 0 → reg < 2 ^ 36 → ∃ t, exec (.jalr x rd ra imm) s = .next t ∧ s.CueOnly t x ∧ s.Ran t x reg (c.wrote rd link) ∧ (t.ctx x).buf = []) ∧
    (reg % 4 ≠ 0 → ∃ t, exec (.jalr x rd ra imm) s = .next t ∧ s.Faulted t x 0x0A reg)

/-- Time and frame waits: TBC reads the timebase; WAITT ends at once when its value has come and waits otherwise, until WAITT_DONE; WAITF
waits for a running output's next frame start, whose nominal grid value rd then takes, and sets cs to 0x07 for one that is
not running.
KWAIT ends when the Kickoff (or Whistle) has settled, at once or with KWAIT_DONE: rd takes its state, cs 0, or 0x0E after a
refused or abandoned Kickoff; while it is in progress the context waits. -/
def Obligations.TimeFrameAndKickoffWaitsComplete : Prop :=
  (∀ (x : Fin 4) (rd ra : Fin 16) (s : State),
      let c := s.ctx x
      let v := (c.reg ra).toNat
      let n := s.waitOut v
      let next := (c.pc + 4) % 2 ^ 36
      (s.issues x = true →
        (∃ t, exec (.tbc x rd) s = .next t ∧ s.CueOnly t x ∧ s.Ran t x next (c.wrote rd (BitVec.ofNat 64 s.tbc))) ∧
        (v ≤ s.tbc → ∃ t, exec (.waitt x ra) s = .next t ∧ s.CueOnly t x ∧ s.Ran t x next (fun k => c.reg k)) ∧
        (s.tbc < v → exec (.waitt x ra) s = .next (s.setCtx x { c with st := 2, wait := 1, waitOn := v, waitRd := 0 })) ∧
        (n < 48 → (s.output n).on = true →
          exec (.waitf x rd ra) s = .next (s.setCtx x { c with st := 2, wait := 2, waitOn := n + 64 * (s.output n).frames, waitRd := rd })) ∧
        (48 ≤ n → ∃ t, exec (.waitf x rd ra) s = .next t ∧ s.CueOnly t x ∧ (t.ctx x).cs = 7 ∧ (t.ctx x).pc = next ∧
          (∀ k : Fin 16, (t.ctx x).reg k = c.wrote rd 0#64 k))) ∧
      (s.power.run = true → c.st = 2 → c.wait = 1 → s.tbc < c.waitOn → c.waitOn < 2 ^ 64 →
        ∃ t, exec (.waittDone x) s = .next t ∧ t.tbc = c.waitOn ∧ s.Ran t x next (fun k => c.reg k)) ∧
      (s.power.run = true → c.st = 2 → c.wait = 2 → (s.output (c.waitOn % 64)).frames ≠ c.waitOn / 64 →
        ∃ t, exec (.waitfDone x) s = .next t ∧ s.CueOnly t x ∧ (t.ctx x).cs = 0 ∧ (t.ctx x).pc = next ∧
          (t.ctx x).st = c.stAfter ∧ (0 < c.waitRd → (t.ctx x).reg c.waitRd = BitVec.ofNat 64 (s.output (c.waitOn % 64)).start))) ∧
  (∀ (x : Fin 4) (rd : Fin 16) (w : Fin 2) (s : State),
      let c := s.ctx x
      let v := if w = 0 then s.getN 0x1F00 2 else s.getN 0x1F08 2
      let busy := if w = 0 then v = 1 ∨ v = 3 ∨ v = 4 else v = 1 ∨ v = 2
      let done := fun (t : State) (r : Nat) => s.CueOnly t x ∧ (t.ctx x).pc = (c.pc + 4) % 2 ^ 36 ∧
        (t.ctx x).cs = (if w = 0 ∧ (v = 6 ∨ v = 7) then 0x0E else 0) ∧ (0 < r → (t.ctx x).reg r = BitVec.ofNat 64 v)
      (s.issues x = true →
        (¬ busy → ∃ t, exec (.kwait x rd w) s = .next t ∧ done t rd) ∧
        (busy → exec (.kwait x rd w) s = .next (s.setCtx x { c with st := 2, wait := 4, waitOn := w, waitRd := rd }))) ∧
      (s.power.run = true → c.st = 2 → c.wait = 4 → c.waitOn = w.val → ¬ busy → ∃ t, exec (.kwaitDone x) s = .next t ∧ done t c.waitRd))

/-- Signals: SIG sets the bits in every context of its mask; WAITS ends when one of its bits is set, returns and clears those, and
waits otherwise, until WAITS_DONE; GETS reads cs. -/
def Obligations.SignalsAreSetReturnedAndCleared : Prop :=
  ∀ (x : Fin 4) (rd : Fin 16) (mask : BitVec 4) (imm : BitVec 16) (s : State),
    let c := s.ctx x
    let next := (c.pc + 4) % 2 ^ 36
    let v := c.sig &&& imm.toNat
    (s.issues x = true →
      (∃ t, exec (.sig x mask imm) s = .next t ∧
        (∀ k : Fin 4, (t.ctx k).sig = if mask.getLsbD k then (s.ctx k).sig ||| imm.toNat else (s.ctx k).sig) ∧
        (t.ctx x).pc = next ∧ (∀ k : Fin 4, k ≠ x → (t.ctx k).pc = (s.ctx k).pc ∧ (t.ctx k).st = (s.ctx k).st) ∧
        t = { s with cue := t.cue }) ∧
      (v ≠ 0 → ∃ t, exec (.waits x rd imm) s = .next t ∧ s.CueOnly t x ∧ (t.ctx x).sig = c.sig ^^^ v ∧ (t.ctx x).pc = next ∧
        (∀ k : Fin 16, (t.ctx x).reg k = c.wrote rd (BitVec.ofNat 64 v) k)) ∧
      (v = 0 → exec (.waits x rd imm) s = .next (s.setCtx x { c with st := 2, wait := 3, waitOn := imm.toNat, waitRd := rd })) ∧
      (∃ t, exec (.gets x rd) s = .next t ∧ s.CueOnly t x ∧ s.Ran t x next (c.wrote rd (BitVec.ofNat 64 c.cs)))) ∧
    (s.power.run = true → c.st = 2 → c.wait = 3 → c.sig &&& c.waitOn ≠ 0 →
      ∃ t, exec (.waitsDone x) s = .next t ∧ s.CueOnly t x ∧ (t.ctx x).sig = c.sig ^^^ (c.sig &&& c.waitOn) ∧ (t.ctx x).pc = next ∧
        (0 < c.waitRd → (t.ctx x).reg c.waitRd = BitVec.ofNat 64 (c.sig &&& c.waitOn)))

/-- The cue port: DRD, DWR, PREP, KICK, WHIS and PLAY post their request with the values of their registers, and the context
waits, CX_WAIT 6, until CUE_PORT_COMPLETE. A DRD of an object its tenant may read then returns the value, cs 0; a DWR that stages an
RS value stages it, cs 0; a PREP of a tenant without the Kickoff right sets cs to 0x06. -/
def Obligations.CuePortRequestsArePostedAndComplete : Prop :=
  (∀ (x : Fin 4) (rd ra rb : Fin 16) (s : State), s.issues x = true →
    let c := s.ctx x
    let P := fun (i : Instr) (op d : Nat) (a b : Word) =>
      exec i s = .next (s.setCtx x { c with wait := 6, port := some { op := op, rd := d, a := a, b := b } })
    P (.drd x rd ra) 0x48 rd (c.reg ra) 0#64 ∧ P (.dwr x ra rb) 0x49 0 (c.reg ra) (c.reg rb) ∧ P (.prep x) 0x4B 0 0#64 0#64 ∧
    P (.kick x ra) 0x4C 0 (c.reg ra) 0#64 ∧ P (.whis x ra) 0x4D 0 (c.reg ra) 0#64 ∧ P (.play x ra rb) 0x52 0 (c.reg ra) (c.reg rb)) ∧
  (∀ (x : Fin 4) (at_ idx sub : Nat) (q : PortReq) (o : Obj) (s : State), s.power.run = true → s.queue = [] → (s.ctx x).port = some q →
    at_ ≤ s.tbc → idx < 65536 → sub < 255 → q.a = BitVec.ofNat 64 (idx * 256 + sub) → findObj s.mgr idx sub = some o → o.d.ty.isDom = false → o.d.ty ≠ .str →
    (q.op = 0x48 → s.admits (s.ctxTen x) o false = true → o.d.acc ≠ .rc →
      ∃ t, exec (.cuePortComplete x at_) s = .next t ∧ s.CueOnly t x ∧ (t.ctx x).cs = 0 ∧ (t.ctx x).port = none ∧
        (t.ctx x).pc = ((s.ctx x).pc + 4) % 2 ^ 36 ∧
        (0 < q.rd → (t.ctx x).reg q.rd = regValue o.d.ty (s.viewCue (s.ctxTen x) idx sub).nat)) ∧
    (q.op = 0x49 → s.admits (s.ctxTen x) o true = true → o.d.acc = .rs → fitsTy o.d.ty q.b = true →
      s.writeCode (s.ctxTen x) true o (toBE o.d.ty.size q.b.toNat) = 0 → s.stageFull (s.ctxTen x) idx sub = false →
      ∃ t, exec (.cuePortComplete x at_) s = .next t ∧ (t.ctx x).cs = 0 ∧ (t.ctx x).port = none ∧
        t.stagedAt idx sub = some { idx := idx, sub := sub, ten := s.ctxTen x, val := decodeVal o.d.ty (toBE o.d.ty.size q.b.toNat) } ∧
        t.mem = s.mem ∧ t.link = s.link)) ∧
  (∀ (x : Fin 4) (at_ : Nat) (q : PortReq) (s : State), s.power.run = true → s.queue = [] → (s.ctx x).port = some q → at_ ≤ s.tbc →
    q.op = 0x4B → s.kickRight (s.ctxTen x) = false →
    ∃ t, exec (.cuePortComplete x at_) s = .next t ∧ s.CueOnly t x ∧ (t.ctx x).cs = 6 ∧ (t.ctx x).port = none)

/-- Blits: BLIT with a valid descriptor and room queues the blit, cs 0; with four of the context's already queued cs is 0x08;
BLIT_EXECUTE of a one-row fill writes its row and takes it from the queue; BWAIT ends once the context has none queued, cs the first
failure, and waits otherwise. -/
def Obligations.BlitsAreQueuedExecutedAndAwaited : Prop :=
  (∀ (x : Fin 4) (ra : Fin 16) (s : State), s.issues x = true →
    let c := s.ctx x
    let a := (c.reg ra).toNat
    let r := s.xbRead 12 (s.ctxTen x) a 32
    let mine := (s.cue.blits.filter (fun b => b.x == x.val)).length
    a < 2 ^ 36 → a % 32 = 0 → r.2.code = 0 →
      (∀ b, mine < 4 → blitOf x (s.ctxTen x) r.2.data = some b →
        ∃ t, exec (.blit x ra) s = .next t ∧ t.cue.blits = s.cue.blits ++ [b] ∧ (t.ctx x).cs = 0 ∧ (t.ctx x).pc = (c.pc + 4) % 2 ^ 36 ∧
          (∀ k : Fin 16, (t.ctx x).reg k = c.reg k)) ∧
      (4 ≤ mine → ∃ t, exec (.blit x ra) s = .next t ∧ t.cue.blits = s.cue.blits ∧ (t.ctx x).cs = 8 ∧ (t.ctx x).pc = (c.pc + 4) % 2 ^ 36)) ∧
  (∀ (at_ n : Nat) (b : Blit) (rest : List Blit) (s : State), s.power.run = true → at_ ≤ s.tbc → s.cue.blits = b :: rest → b.op = 1 →
    b.height = 1 → b.row = 0 → b.width % 4 = 0 →
    let row := (List.replicate (b.width / 4) (toLE 4 b.src)).flatten
    (s.writeMem 16 b.ten b.dst row).2.code = 0 →
    exec (.blitExecute (n + 1) at_) s = .next { (s.writeMem 16 b.ten b.dst row).1 with
      cue := { (s.writeMem 16 b.ten b.dst row).1.cue with blits := rest } }) ∧
  (∀ (x : Fin 4) (s : State),
    let c := s.ctx x
    let done := fun (t : State) => s.CueOnly t x ∧ (t.ctx x).cs = c.blitErr ∧ (t.ctx x).blitErr = 0 ∧ (t.ctx x).pc = (c.pc + 4) % 2 ^ 36 ∧
      (∀ k : Fin 16, (t.ctx x).reg k = c.reg k)
    (s.issues x = true → s.blitsOf x = false → ∃ t, exec (.bwait x) s = .next t ∧ done t) ∧
    (s.issues x = true → s.blitsOf x = true → exec (.bwait x) s = .next (s.setCtx x { c with st := 2, wait := 5, waitOn := 0, waitRd := 0 })) ∧
    (s.power.run = true → c.st = 2 → c.wait = 5 → s.blitsOf x = false → ∃ t, exec (.bwaitDone x) s = .next t ∧ done t))

/-- NOP goes on; HALT halts with PC past it; POST publishes its value, counts it and raises the event; a word that is no
instruction faults with cause 0x01. -/
def Obligations.NopHaltPostAndIllegalWords : Prop :=
  ∀ (x : Fin 4) (val : BitVec 8) (s : State), s.issues x = true →
    let c := s.ctx x
    let next := (c.pc + 4) % 2 ^ 36
    (∃ t, exec (.nop x) s = .next t ∧ s.CueOnly t x ∧ s.Ran t x next (fun k => c.reg k)) ∧
    (∃ t, exec (.halt x) s = .next t ∧ s.CueOnly t x ∧ (t.ctx x).st = 0 ∧ (t.ctx x).pc = next ∧ ∀ k : Fin 16, (t.ctx x).reg k = c.reg k) ∧
    (∃ t, exec (.post x val) s = .next t ∧ (t.ctx x).post = val.toNat ∧ (t.ctx x).posts = satAdd maxU32 c.posts 1 ∧ (t.ctx x).pc = next ∧
      bitAt t.ev.pend 25 = true ∧ t.mem = s.mem ∧ t.objs = s.objs) ∧
    (∃ t, exec (.illegalInstruction x 0x00000000#32) s = .next t ∧ s.Faulted t x 1 0) ∧
    (∃ t, exec (.illegalInstruction x 0x01000001#32) s = .next t ∧ s.Faulted t x 1 0)

/-- An instruction word from the prefetch buffer runs as the instruction its encoding spells: opcode in bits [31:24], rd, ra and rb
in the next three fields of four bits, or a 16-bit immediate below ra. -/
def Obligations.FetchedWordsRunAsTheirInstruction : Prop :=
  ∀ (x : Fin 4) (rd ra rb : Fin 16) (imm : BitVec 16) (at_ : Nat) (s : State), s.issues x = true → at_ ≤ s.tbc →
    let R := fun (w : Nat) (i : Instr) => (s.ctx x).buf.find? (fun e => e.1 == (s.ctx x).pc) = some ((s.ctx x).pc, w) →
      exec (.cueMemoryResponse x at_) s = exec i s
    let r3 := rd.val * 2 ^ 20 + ra.val * 2 ^ 16 + rb.val * 2 ^ 12
    let ri := rd.val * 2 ^ 20 + ra.val * 2 ^ 16 + imm.toNat
    R (0x01 * 2 ^ 24 + r3) (.add x rd ra rb) ∧ R (0x02 * 2 ^ 24 + r3) (.sub x rd ra rb) ∧ R (0x0B * 2 ^ 24 + r3) (.slt x rd ra rb) ∧
    R (0x11 * 2 ^ 24 + ri) (.addi x rd ra imm) ∧ R (0x22 * 2 ^ 24 + ri) (.lw x rd ra imm) ∧ R (0x2B * 2 ^ 24 + ri) (.sd x rd ra imm) ∧
    R (0x30 * 2 ^ 24 + ri) (.beq x rd ra imm) ∧ R (0x39 * 2 ^ 24 + ri) (.jalr x rd ra imm) ∧
    R (0x44 * 2 ^ 24 + rd.val * 2 ^ 20 + imm.toNat) (.waits x rd imm) ∧ R (0x5E * 2 ^ 24) (.nop x) ∧ R (0x5F * 2 ^ 24) (.halt x)

/-- Host control of a context: start runs a halted or faulted one at CX_PC with its fault cleared; halt stops one that runs, or
waits, with PC kept; step runs one instruction of a halted one. Each is answered 0x00, and no other context changes.
The factory boot: with a valid image at CE_BOOT_ADDR, every context whose flag is set runs from its entry with its registers and
cs clear, and CE_BOOT_STATUS reads 1; with none, or booting disabled, context 0 halts and it reads 2. -/
def Obligations.ContextsBootAndObeyTheHost : Prop :=
  (∀ (x : Fin 4) (f : Frame) (v : BitVec 8) (s : State) (o : Obj),
      let g : Frame := { atObject f (0x2B10 + x) 1 with len := 1#16, payload := [v] }
      s.Executes 2 g → s.MayWrite g o → s.BridgeFree g →
      let c := s.ctx x
      let ok := fun (t : State) => t.link.resp = some { status := 0, echo := echoOf 2 g, payload := [], full := true } ∧
        t.link.replay = some (echoOf 2 g, g.crc.toNat) ∧ (∀ y, y ≠ x.val → t.ctx y = s.ctx y) ∧ t.staging = s.staging ∧ t.queue = []
      (v = 1#8 → c.st = 0 ∨ c.st = 3 → ∃ t, exec (.cxControlStart x f) s = .next t ∧ ok t ∧
        t.ctx x = { c with st := 1, wait := 0, fault := 0, buf := [], step := false, halt := false }) ∧
      (v = 2#8 → c.st = 1 ∨ c.st = 2 → c.port = none → ∃ t, exec (.cxControlHalt x f) s = .next t ∧ ok t ∧
        t.ctx x = { c with st := 0, wait := 0, step := false, halt := false }) ∧
      (v = 3#8 → c.st = 0 → ∃ t, exec (.cxControlStep x f) s = .next t ∧
        t.link.resp = some { status := 0, echo := echoOf 2 g, payload := [], full := true } ∧
        t.ctx x = (((s.heard g).setCtx x { c with st := 1, step := true, fault := 0, buf := [] }).cueFetch x).ctx x)) ∧
  (∀ s : State, s.power.run = true → s.power.dramOk = true → s.power.kind ≠ 3 → s.getN 0x2B00 1 = 0 →
      let base := s.getN 0x2B00 2
      let rh := s.readMem 12 0 base 64
      let h := rh.2.data
      let l := leAt h 8 4
      let ri := rh.1.readMem 12 0 (base + 64) l
      (rh.2.code = 0 → s.getN 0x2B00 3 ≠ 0 → leAt h 0 4 = 0x55434B53 → 4 ≤ l → l ≤ 4194240 → ri.2.code = 0 → bootImageOk h ri.2.data l = true →
        bitAt (leAt h 6 2) 0 = true →
        ∃ t, exec .cueBoot s = .next t ∧ t.getN 0x2B00 1 = 1 ∧
          (∀ x : Fin 4, bitAt (leAt h 6 2) x = true →
            (t.ctx x).st = 1 ∧ (t.ctx x).pc = base + leAt h (16 + 4 * x) 4 ∧ (t.ctx x).cs = 0 ∧ ∀ k : Fin 16, (t.ctx x).reg k = 0#64) ∧
          (∀ x : Fin 4, bitAt (leAt h 6 2) x = false → t.ctx x = ri.1.ctx x)) ∧
      (rh.2.code = 0 → s.getN 0x2B00 3 = 0 ∨ leAt h 0 4 ≠ 0x55434B53 →
        ∃ t, exec .cueBoot s = .next t ∧ t.getN 0x2B00 1 = 2 ∧ (t.ctx 0).st = 0 ∧ ∀ x : Fin 4, x ≠ 0 → t.ctx x = rh.1.ctx x))

/-! ### References (chapter 4) -/

/-- Candidates and the selector: a passing gate counts QUALIFIED_S and qualifies at 10 s; a loss disqualifies and counts; the
selector takes up the best qualified candidate, with the phase difference as its build-out where none is realigned; a realignment
ends once the pulses stand within ±20 ns of the grid; a PPS edge latches TBC; the selected reference's first pulse
after lock fixes the grid anchor. The rest of the device is as before. -/
def Obligations.CandidatesQualifyAndTheSelectorLocks : Prop :=
  ∀ (k : Fin 8) (at_ : Nat) (s : State), s.power.run = true → at_ ≤ s.tbc →
    let c := candIdx k
    let frame := fun (t : State) => t.mem = s.mem ∧ t.staging = s.staging ∧ t.tenants = s.tenants ∧ t.queue = s.queue ∧ t.link = s.link ∧
      t.tbc = s.tbc ∧ t.inputs = s.inputs ∧ t.outputs = s.outputs
    (∀ m : CandMeas, s.inUse c 1 ≠ 0 → m.present = true → s.fmtPasses k m.fmt.toNat = true →
      -Int.ofNat (1000 * s.inUse 0x2002 6) ≤ m.offset → m.offset ≤ Int.ofNat (1000 * s.inUse 0x2002 6) → s.candState k = 2 →
      ∃ t, exec (.candidateMeasure k m at_) s = .next t ∧ frame t ∧ t.getN c 5 = ofInt 32 m.offset ∧
        t.getN c 7 = satAdd maxU32 (s.getN c 7) 1 ∧ t.candState k = (if 10 ≤ satAdd maxU32 (s.getN c 7) 1 then 3 else 2)) ∧
    (k.val < 5 → s.inUse c 1 ≠ 0 →
      ∃ t, exec (.referenceLoss k at_) s = .next t ∧ frame t ∧ t.candState k = 1 ∧ t.getN c 7 = 0 ∧
        t.getN c 8 = (if s.candState k = 3 ∨ s.candState k = 4 then satAdd maxU32 (s.getN c 8) 1 else s.getN c 8)) ∧
    (∀ (ph bo : Int) (j : Nat), s.getN 0x2001 1 = 0 → s.bestCand (fun i => s.candState i == 3) = some j → s.inUse 0x2002 4 = 0 →
      ∃ t, exec (.selectorEvaluate ph bo at_) s = .next t ∧ frame t ∧ t.getN 0x2001 1 = 1 ∧ t.getN 0x2001 2 = j ∧ t.candState j = 4 ∧
        t.refs.buildout = bo) ∧
    (s.refs.realign = true → s.farFromGrid = false →
      ∃ t, exec (.realignmentDone at_) s = .next t ∧ frame t ∧ t.refs = { s.refs with realign := false, buildout := 0, slip := 0 }) ∧
    (s.refs.awaitPulse = false →
      ∃ t, exec (.ppsEdge true at_) s = .next t ∧ frame t ∧ t.objs = (s.setN 0x2000 3 s.tbc).objs ∧ t.anchor = s.anchor ∧ t.ev = s.ev) ∧
    (∀ fmt : BitVec 32, s.inUse c 1 ≠ 0 → s.candState k = 4 → s.fmtPasses k fmt.toNat = true → s.refs.awaitPulse = true →
      s.selected = some k.val → s.refs.anchored = false → k.val < 5 ∨ (s.input (s.inUse c 3)).startAt = s.tbc →
      ∃ t, exec (.referenceFramePulse k fmt at_) s = .next t ∧ frame t ∧ t.getN 0x2000 2 = s.tbc ∧ t.refs.anchored = true ∧
        t.refs.awaitPulse = false ∧ t.refs.pulsed = true)

/-! ### Crossbar, banks, DRAM (chapters 12, 13) -/

/-- Crossbar transactions of a master with no Gate enabled, to SRAM whose bank is ON, without errors in memory: a write stores its bytes
at its address and nowhere else, a read returns the bytes held and changes none, both answered OKAY. A read that the
master's Gates refuse is answered with REFUSED, cause 3 and zeros. A broken lock is gone, and its master is answered DECODE,
cause 7. A class C request that has waited 10 µs is promoted and counted. -/
def Obligations.CrossbarTransactionsArePerformedAndAnswered : Prop :=
  ∀ (x : XOp) (at_ : Nat) (s : State), s.power.run = true → at_ ≤ s.tbc →
    (x.upset = none → x.lock = [] → s.xb.lock = none → 0 < x.len → sramBase ≤ x.addr.toNat → x.addr.toNat + x.len ≤ sramBase + sramSize →
      s.bankRefuses ((x.addr.toNat - sramBase) >>> 17) = false → (s.phys (s.servedBy ((x.addr.toNat - sramBase) >>> 17))).st = 0 → (xbSlices x.m ((x.addr.toNat - sramBase) >>> 23)).isSome = true →
      s.bank.ue = [] → s.bank.ce = [] →
      (s.gates x.m = [] → x.wr = true → x.data.length = x.len →
        ∃ t, exec (.crossbarTransaction x at_) s = .next t ∧
          (∀ a, memByte t.mem a = if x.addr.toNat ≤ a ∧ a < x.addr.toNat + x.len then x.data.getD (a - x.addr.toNat) 0#8 else memByte s.mem a) ∧
          tabGet {} t.xb.resp x.m = { code := 0, cause := 0, data := [] } ∧ t.staging = s.staging ∧ t.tenants = s.tenants ∧ t.cue = s.cue) ∧
      (s.gates x.m = [] → x.wr = false →
        ∃ t, exec (.crossbarTransaction x at_) s = .next t ∧ t.mem = s.mem ∧
          tabGet {} t.xb.resp x.m = { code := 0, cause := 0, data := memRead s.mem x.addr.toNat x.len } ∧
          t.staging = s.staging ∧ t.tenants = s.tenants ∧ t.cue = s.cue) ∧
      (∀ u, x.wr = false → gateRefusal (s.gates x.m) { m := x.m, tag := x.tag.toNat, addr := x.addr.toNat, len := x.len, wr := false, fetch := x.fetch, data := x.data }
          x.addr.toNat = some u →
        ∃ t, exec (.crossbarTransaction x at_) s = .next t ∧
          tabGet {} t.xb.resp x.m = { code := 2, cause := 3, data := zeros x.len } ∧ t.staging = s.staging ∧ t.cue = s.cue)) ∧
    (∀ l : XLock, s.xb.lock = some l → s.xb.waiting = [] → s.xb.ready = [] →
      ∃ t, exec (.lockBreak at_) s = .next t ∧ t.xb.lock = none ∧ tabGet {} t.xb.resp l.m = { code := 3, cause := 7, data := [] } ∧
        t.staging = s.staging ∧ t.cue = s.cue) ∧
    (∀ (m : Fin 20) (g : Fin 14) (w : XWait), xbClass m = 2 → s.xb.waiting = [w] → w.m = m.val → w.t = g.val → w.promoted = false →
      ∃ t, exec (.classCPromotion m g at_) s = .next t ∧ t.xb.waiting = [{ w with promoted := true }] ∧
        t.getN 0x2A00 2 = satAdd maxU32 (s.getN 0x2A00 2) 1 ∧ t.mem = s.mem ∧ t.staging = s.staging)

/-- Banks: a transition of a bank's power ends in its new state, and a bank that was or becomes OFF reads as zero; the schedule tests
the lowest testable bank with a spare, from the fourth phase on where a test of it was cut short by a reset (log entry 129); the phases of a preserving test follow each other, the spare serving the bank from the
third on and the bank itself again at the end; the scrub reads the next word; MT_RUN_NOW starts a test. -/
def Obligations.BanksChangeStateAndAreTested : Prop :=
  ∀ (at_ : Nat) (s : State), s.power.run = true → at_ ≤ s.tbc →
    (∀ (p : Fin 528) (st : Nat), (s.phys p).moveTo = some st →
      ∃ t, exec (.bankPowerReady p) s = .next t ∧ (t.phys p).st = st ∧ (t.phys p).moveTo = none ∧
        (∀ b, s.serves p = some b → ∀ a, memByte t.mem a =
          if (st = 2 ∨ (s.phys p).st = 2) ∧ bankAddr b ≤ a ∧ a < bankAddr b + 0x20000 then 0#8 else memByte s.mem a) ∧
        t.objs = s.objs ∧ t.staging = s.staging ∧ t.tenants = s.tenants) ∧
    (∀ b sp : Nat, s.getN 0x2904 1 ≠ 0 → s.bank.test = none → s.testable b = true → s.bank.passNext ≤ b → b < 512 →
      (∀ c, s.bank.passNext ≤ c → c < b → s.testable c = false) → s.testSpare b = some sp →
      ∃ t, exec (.marchSchedule at_) s = .next t ∧ t.bank.test = some { bank := b, spare := sp, phase := if s.resumes b then 4 else 1 } ∧ t.bank.passNext = b + 1 ∧
        (t.phys sp).st = 0 ∧ t.mem = s.mem ∧ t.staging = s.staging) ∧
    (∀ (r : PhaseEnd) (m : MTest), s.bank.test = some m → m.alone = false → s.m17Refused m.bank = false →
      (m.phase = 1 → r.fails = false → ∃ t, exec (.preservingTestPhaseDone r at_) s = .next t ∧ t.bank.test = some { m with phase := 2 } ∧ t.mem = s.mem) ∧
      (m.phase = 2 ∨ m.phase = 5 → ∃ t, exec (.preservingTestPhaseDone r at_) s = .next t ∧
        t.bank.test = some { m with phase := m.phase + 1 } ∧ t.bank.served = s.bank.served ∧ t.mem = s.mem) ∧
      (m.phase = 3 → s.xb.lock = none → ∃ t, exec (.preservingTestPhaseDone r at_) s = .next t ∧
        t.bank.test = some { m with phase := 4 } ∧ t.servedBy m.bank = m.spare ∧ t.mem = s.mem) ∧
      (m.phase = 6 → s.xb.lock = none → ∃ t, exec (.preservingTestPhaseDone r at_) s = .next t ∧
        t.bank.test = none ∧ t.servedBy m.bank = m.bank ∧ t.mem = s.mem)) ∧
    (s.getN 0x2901 1 ≠ 0 → s.bank.scrubNext = 0 → (s.phys 0).st = 0 → s.serves 0 = some 0 → (s.xbRead 19 0 sramBase 32).2.code = 0 →
      ∃ t, exec (.scrubRead none at_) s = .next t ∧ t.bank.scrubNext = 1 ∧ sramBase / 32 ∉ t.bank.ce ∧
        t.mem = (s.xbRead 19 0 sramBase 32).1.mem ∧ t.staging = s.staging) ∧
    (∀ (f g : Frame) (o : Obj) (sp : Nat), g = atObject f 0x2904 5 → s.Executes 2 g → s.MayWrite g o → s.BridgeFree g →
      s.bank.test = none → ofBE f.payload < 512 → (s.heard g).testSpare (ofBE f.payload) = some sp →
      (s.heard g).testable (ofBE f.payload) = true →
      ∃ t, exec (.mtRunNow f) s = .next t ∧
        t.bank.test = some { bank := ofBE f.payload, spare := sp, phase := if s.resumes (ofBE f.payload) then 4 else 1 } ∧
        t.link.resp = some { status := 0, echo := echoOf 2 g, payload := [], full := true } ∧ t.mem = s.mem ∧ t.staging = s.staging)

/-- A repair record is programmed into the lowest free customer slot, and the slots written before stay as they are. -/
def Obligations.RepairRecordTakesTheLowestFreeSlot : Prop :=
  ∀ (at_ v : Nat) (e : BEntry) (s : State), s.power.open_ = true → s.queue = [e] → e.job = .mrProgram v → e.res = none → e.cue = none → e.bcast = false →
    at_ ≤ s.tbc → s.repairRefuses v = false →
    ∃ t, exec (.mrProgramDone true at_) s = .next t ∧
      t.bank.customer = s.bank.customer.set (s.bank.customer.findIdx (· == 0)) v ∧ t.bank.factory = s.bank.factory ∧
      t.queue = [{ e with res := some { status := 0, payload := [] } }] ∧ t.mem = s.mem ∧ t.staging = s.staging ∧ t.tenants = s.tenants

/-- Fuse bits once programmed stay programmed, whatever happens, and the factory records never change. -/
def Obligations.RepairFusesAreNeverCleared : Prop :=
  ∀ (c : Instr) (s t : State), exec c s = .next t →
    t.bank.factory = s.bank.factory ∧ t.bank.customer.length = s.bank.customer.length ∧
    ∀ i, s.bank.customer.getD i 0 ≠ 0 → t.bank.customer.getD i 0 = s.bank.customer.getD i 0

/-- DRAM: four channels that train with one density give the whole capacity; a refresh is issued, or postponed while class A
waits, at most eight times; MR4 is shown; a patrol read without an error moves on and changes no memory. -/
def Obligations.DramTrainsRefreshesAndPatrols : Prop :=
  ∀ s : State, s.power.run = true →
    (∀ d : Nat, s.power.dramOk = false → s.mgr = true → s.dram.ecc = false → d = 1024 ∨ d = 2048 ∨ d = 4096 ∨ d = 8192 →
      ∃ t, exec (.dramTrainingDone [0, 0, 0, 0] [d, d, d, d]) s = .next t ∧ t.dram.chans = [0, 1, 2, 3] ∧ t.power.dramOk = true ∧
        t.getN 0x2A30 4 = 4 * d * 0x100000 ∧ t.getN 0x2A30 5 = 15 ∧ (s.dram.chans = [0, 1, 2, 3] → t.mem = s.mem) ∧
        (∀ c : Fin 4, t.getN (0x2A40 + c) 1 = 1 ∧ t.getN (0x2A40 + c) 2 = d) ∧ t.staging = s.staging) ∧
    (∀ (c : Fin 4) (a : Bool), exec (.dramRefresh c a) s = .next { s with dram := { s.dram with
      postponed := tabSet 0 s.dram.postponed c (if a = true ∧ tabGet 0 s.dram.postponed c < 8 then tabGet 0 s.dram.postponed c + 1 else 0) } }) ∧
    (∀ (c : Fin 4) (rate : BitVec 5) (hot : Bool), ∃ t, exec (.mr4Poll c rate hot) s = .next t ∧ t.getN (0x2A40 + c) 7 = rate.toNat ∧
      (hot = true → bitAt t.ev.pend 23 = true) ∧ (hot = false → t.ev = s.ev) ∧ t.mem = s.mem ∧ t.dram = s.dram) ∧
    (∀ (c : Fin 4) (at_ i : Nat), at_ ≤ s.tbc → s.dram.chans.idxOf? c.val = some i → s.dram.ecc = true → s.dramU ≠ 0 → s.bank.ue = [] → s.bank.ce = [] →
      ∃ t, exec (.dramPatrolRead c none at_) s = .next t ∧ t.mem = s.mem ∧ t.objs = s.objs ∧ t.ev = s.ev ∧
        tabGet 0 t.dram.patrolNext c = (if s.dramU / s.dram.chans.length ≤ tabGet 0 s.dram.patrolNext c + 32 then 0
          else tabGet 0 s.dram.patrolNext c + 32))

/-! ### Inputs (chapter 7) -/

/-- Input ports: a lane without signal locks at the highest rate of its mode that yields timing, which sets SIGNAL; two complete
frames that agree lock the input and show its format; line 1 of a frame of a writable progressive input that no reference follows
takes a slot, or counts a drop where none is free; a loss clears SIGNAL, LOCKED and the format, counts, and starts the hold if there
is a newest frame; the hold of a port or virtual input ends IN_HOLD_MS later; a starved writer abandons its frame and counts.
Memory, staging, tenants and the link are as before. That the writer holds its next slot between frames, and that a virtual input
holds for the default time, are the model's choices (log entries 122, 19). -/
def Obligations.InputsLockHoldAndLoseTheirSignal : Prop :=
  ∀ (n : Fin 32) (at_ : Nat) (s : State), s.power.run = true → at_ ≤ s.tbc →
    let i := 0x2100 + n.val
    let x := s.input n
    let frame := fun (t : State) => t.mem = s.mem ∧ t.staging = s.staging ∧ t.tenants = s.tenants ∧ t.link = s.link ∧ t.queue = s.queue ∧
      t.readers = s.readers ∧ t.outputs = s.outputs ∧ ∀ m, m ≠ n.val → t.input m = s.input m
    (∀ (found : List (Fin 5)) (rate : Fin 5), s.getBit i 2 0 = false → rate ∈ found → modeAccepts (s.getN i 1) rate = true →
      (∀ r ∈ found, modeAccepts (s.getN i 1) r = true → r ≤ rate) → s.dpMember n = false → (s.getN i 1 = 6 → s.dpExists (n / 4) = true) →
      ∃ t, exec (.inputSignalLock n found at_) s = .next t ∧ frame t ∧ t.tbc = s.tbc ∧ t.getBit i 2 0 = true ∧
        t.getBit i 2 12 = (s.getBit i 2 12 || s.getN i 1 == 6) ∧ t.input n = { x with rate := rate, seen := none, periods := [], code := 0 }) ∧
    (s.getBit i 2 0 = true →
      (∀ (field2 : Bool) (m : FrameMeas) (raw : Raw), x.seen ≠ some (m.w, m.h, m.lines, m.inter) → x.writer = none →
        ∃ t, exec (.inputFrameComplete n field2 (some m) raw at_) s = .next t ∧ frame t ∧ t.getBit i 2 1 = false ∧ t.getN i 3 = 0 ∧
          t.input n = { x with seen := some (m.w, m.h, m.lines, m.inter), periods := [m.period], code := 0, fields := [] }) ∧
      (∀ (m : FrameMeas) (raw : Raw) (c : Nat), x.seen = some (m.w, m.h, m.lines, m.inter) → x.writer = none → m.inter = false →
        m.accepted = true → s.getBit i 2 1 = false → c = rateCodeOf (meanOf ((m.period :: x.periods).take 16)) → c ≠ 0 →
        fmtAccepted x.rate m.w m.h c false false (m.pixels * m.lines * Config.ticksPerSec / max 1 m.period) = true →
        s.oversize n m.w m.h = false →
        ∃ t, exec (.inputFrameComplete n false (some m) raw at_) s = .next t ∧ frame t ∧ t.getBit i 2 1 = true ∧ t.getBit i 2 2 = false ∧
          t.getBit i 2 7 = false ∧ t.getN i 3 = fmtOf m.w m.h c 0 ∧
          (∀ k, (t.input n).writer = some k → s.pickSlot n = some k ∧ x.newest ≠ some k) ∧
          t.input n = { x with periods := (m.period :: x.periods).take 16, code := c, psf := false,
                               writer := (t.input n).writer, begun := (t.input n).begun }) ∧
      (∀ (main : Colour) (override : Option Colour), s.writable n = true → s.inFields n = false → x.begun = false →
        (∀ k, k < 8 → s.candOfInput k n = false) →
        (∀ k, s.pickSlot n = some k → (x.slot k).full = false →
          ∃ t, exec (.inputFrameStart n false main override at_) s = .next t ∧ frame t ∧ t.objs = s.objs ∧ (t.input n).writer = some k ∧
            (t.input n).begun = true ∧ (t.input n).startAt = s.tbc ∧ (t.input n).conv = convOf (s.inCsc n) main override (x.rate == 4)) ∧
        (s.pickSlot n = none →
          ∃ t, exec (.inputFrameStart n false main override at_) s = .next t ∧ frame t ∧ (t.input n).writer = none ∧
            t.getN i 8 = satAdd maxU32 (s.getN i 8) 1)) ∧
      (∃ t, exec (.inputSignalLoss n at_) s = .next t ∧ frame t ∧ t.getBit i 2 0 = false ∧ t.getBit i 2 1 = false ∧ t.getN i 3 = 0 ∧
        t.getN i 0x13 = satAdd maxU32 (s.getN i 0x13) 1 ∧ (t.input n).writer = none ∧ (t.input n).newest = x.newest ∧ (t.input n).lossAt = s.tbc ∧
        (t.input n).holding = (decide (0 < s.getN i 0x14) && x.newest.isSome && !x.dead) ∧ (t.input n).dead = !(t.input n).holding ∧
        t.getBit i 2 10 = (t.input n).holding)) ∧
    (∀ h : Fin 64, (s.input h).holding = true → (s.input h).lossAt + s.inHoldMs h * Config.ticksPerMs < 2 ^ 64 →
      ∃ t, exec (.holdExpiry h) s = .next t ∧ t.mem = s.mem ∧ t.staging = s.staging ∧ t.queue = s.queue ∧
        t.tbc = max s.tbc ((s.input h).lossAt + s.inHoldMs h * Config.ticksPerMs) ∧
        t.input h = { s.input h with holding := false, dead := true } ∧ (h.val < 32 → t.getBit (0x2100 + h) 2 10 = false)) ∧
    (∀ k, x.writer = some k → x.begun = true →
      ∃ t, exec (.writerStarved n at_) s = .next t ∧ frame t ∧ t.input n = { x.setSlot k {} with writer := none, begun := false } ∧
        t.getN i 8 = satAdd maxU32 (s.getN i 8) 1 ∧ t.getN i 0x11 = satAdd maxU32 (s.getN i 0x11) 1 ∧ t.getBit i 2 8 = true)

/-- A video layer's reader at its selection instant, while no layer has a move between outputs pending, takes the newest complete frame of its input, marks it used and repeats where it took
that frame last; with no frame to take it holds none and NO_SIGNAL shows.
AUX: a receiver that exists answers an EDID read with IN_EDID's bytes, keeps writes to its link configuration, refuses other I2C
addresses, and sends nothing where it does not exist. A low pulse of DP_HPD for a new EDID ends 100 ms later. -/
def Obligations.ReadersTakeFramesAndReceiversAnswerAux : Prop :=
  (∀ (e : Fin 96) (at_ : Nat) (s : State), s.power.run = true → at_ ≤ s.tbc →
      let i := 0x2300 + e.val
      let n := s.vlSource e
      let x := s.input n
      let key := fun k => (n, (x.slot k).seq, (x.slot k).seq)
      (s.output (s.getN i 1)).stays = [] → (∀ p ∈ s.readers, p.2.left = none) →
      let frame := fun (t : State) => t.mem = s.mem ∧ t.staging = s.staging ∧ t.link = s.link ∧ t.queue = s.queue ∧ t.outputs = s.outputs ∧
        t.tbc = s.tbc ∧ ∀ d, d ≠ e.val → t.reader d = s.reader d
      (s.getN i 1 = 0xFF ∨ x.dead = true ∨ x.newest = none →
        ∃ t, exec (.readerSelect e at_) s = .next t ∧ frame t ∧ t.reader e = { last := (s.reader e).last } ∧ t.inputs = s.inputs ∧
          t.getBit i 0x0D 1 = (s.getN i 1 != 0xFF)) ∧
      (∀ k, s.getN i 1 ≠ 0xFF → x.dead = false → x.newest = some k → s.inBlend n = false →
        ∃ t, exec (.readerSelect e at_) s = .next t ∧ frame t ∧ t.reader e = { b := some (s.hold n k), a := none, w := 256, last := some (key k) } ∧
          t.input n = x.setSlot k { x.slot k with used := true } ∧ t.getBit i 0x0D 1 = false ∧ t.getBit i 0x0D 2 = x.holding ∧
          (n < 32 → t.getN (0x2100 + n) 9 = if (s.reader e).last = some (key k) then satAdd maxU32 (s.getN (0x2100 + n) 9) 1 else s.getN (0x2100 + n) 9))) ∧
  (∀ (k : Fin 8) (s : State),
      let n := 4 * k.val
      let x := s.input n
      (∀ req, s.power.run = false ∨ s.dpExists k = false → exec (.auxRequest k req) s = .next (s.setInput n { x with reply := none, nack := false })) ∧
      (s.power.run = true → s.dpExists k = true →
        (∀ seg ofs len, exec (.auxRequest k (.edidRead seg ofs len)) s =
          .next (s.setInput n { x with reply := some ((List.range len).map (fun j => (s.getB (0x2100 + n) 0x19).getD (256 * seg.toNat + ofs.toNat + j) 0#8)), nack := false })) ∧
        (∀ a, exec (.auxRequest k (.otherI2c a)) s = .next (s.setInput n { x with reply := none, nack := true })) ∧
        (∀ (a : BitVec 20) (l : List Byte), ∃ t, exec (.auxRequest k (.dpcdWrite a l)) s = .next t ∧ (t.input n).reply = some [] ∧
          (∀ b, inRange b 0x100 0x20 = true → tabGet 0 (t.input n).dpcd b =
            if a.toNat ≤ b ∧ b < a.toNat + l.length then (l.getD (b - a.toNat) 0#8).toNat else tabGet 0 x.dpcd b) ∧ t.objs = s.objs ∧ t.mem = s.mem)) ∧
      (∀ d, x.hpdPulse = some d → d < 2 ^ 64 →
        ∃ t, exec (.edidHpdPulseEnd k) s = .next t ∧ t.tbc = (if s.power.run then max s.tbc d else s.tbc) ∧ (t.input n).hpdPulse = none ∧
          (t.input n).hpd = (s.power.run && s.dpExists k) ∧ t.objs = s.objs ∧ t.mem = s.mem ∧ t.staging = s.staging))

/-! ### Outputs (chapters 8, 9) -/

/-- A plug reads the sink and starts training; an unplug idles the link; a lost lock and the retry timer train again; training ends
in the first rate and lanes that succeed, with the depth that fits them, or in TRAIN_FAILED with a retry 1 s later. Memory,
staging, inputs and the other outputs are as before. -/
def Obligations.LinksTrainAndFollowTheSink : Prop :=
  ∀ (n : Fin 48) (at_ : Nat) (s : State), at_ ≤ s.tbc →
    let i := 0x2200 + n.val
    let o := s.output n
    let frame := fun (t : State) => t.mem = s.mem ∧ t.staging = s.staging ∧ t.tenants = s.tenants ∧ t.link = s.link ∧ t.queue = s.queue ∧
      t.inputs = s.inputs ∧ ∀ m, m ≠ n.val → t.output m = s.output m
    let training := fun (t : State) => t.getBit i 4 2 = true ∧ t.getBit i 4 3 = false ∧ t.getN i 0x15 = 0xFF00 ∧
      t.getN i 0x16 = satAdd maxU32 (s.getN i 0x16) 1 ∧ (t.output n).retryAt = none
    (∀ sink : SinkCaps, s.power.enabled = true → s.getN i 1 = 1 → s.gangMember n = false → s.getBit i 4 1 = false →
      ∃ t, exec (.hpdPlug n sink at_) s = .next t ∧ frame t ∧ training t ∧ t.getBit i 4 1 = true ∧ t.getBit i 4 11 = true ∧
        t.getB i 0x17 = sink.edid.take 512 ∧
        t.output n = { o with sinkRate := sink.rate, sinkLanes := sink.lanes, altScr := false, retryAt := none }) ∧
    (s.power.enabled = true → s.getN i 1 = 1 → s.getBit i 4 1 = true →
      ∃ t, exec (.hpdUnplug n at_) s = .next t ∧ frame t ∧ t.getBit i 4 1 = false ∧ t.getBit i 4 2 = false ∧ t.getBit i 4 3 = false ∧
        t.getBit i 4 11 = false ∧ t.getN i 0x15 = 0xFF00 ∧ t.output n = { o with retryAt := none }) ∧
    (s.power.enabled = true → s.getBit i 4 1 = true →
      ∃ t, exec (.irqHpd n true at_) s = .next t ∧ frame t ∧ training t ∧ t.getBit i 4 1 = true ∧ t.output n = { o with retryAt := none }) ∧
    (∀ d, o.retryAt = some d → d < 2 ^ 64 → s.power.run = true →
      ∃ t, exec (.trainRetryTimer n) s = .next t ∧ t.mem = s.mem ∧ t.staging = s.staging ∧ training t ∧ t.tbc = max s.tbc d ∧
        t.output n = { o with retryAt := none }) ∧
    (∀ (attempts : List Bool) (panel : SinkCaps), s.getBit i 4 2 = true → s.getN i 1 = 1 →
      let order := trainOrder (min (s.getN i 0x0C) o.sinkRate) (min (s.getN i 0x0B) o.sinkLanes)
      (∀ r l, (order.zip attempts).find? (·.2) = some ((r, l), true) →
        ∃ t, exec (.linkTrainingDone n attempts panel at_) s = .next t ∧ frame t ∧ t.getBit i 4 2 = false ∧ t.getBit i 4 3 = true ∧
          t.getBit i 4 12 = false ∧ t.getBit i 4 5 = (s.pickDepth n r l).isNone ∧
          t.getN i 0x15 = ((((s.pickDepth n r l).getD 0) <<< 16) ||| (r <<< 8) ||| l) ∧ t.output n = o) ∧
      ((order.zip attempts).find? (·.2) = none →
        ∃ t, exec (.linkTrainingDone n attempts panel at_) s = .next t ∧ frame t ∧ t.getBit i 4 2 = false ∧ t.getBit i 4 3 = false ∧
          t.getBit i 4 12 = true ∧ t.getN i 0x15 = 0xFF00 ∧ t.output n = { o with retryAt := some (s.tbc + Config.ticksPerSec) }))

/-- A running output starts its next frame at its nominal time, counts it, shows the underruns of the frame that ended, and enters or
leaves the safe-scene fallback as R286 to R288 say; an output without layers and with no apply point outstanding sends its background
on its link, or links; its zone statistics are published;
OUT_FORCE_SAFE is held at the settle edge. -/
def Obligations.OutputsStartFramesSendSegmentsAndFallBack : Prop :=
  ∀ (n : Fin 48) (at_ : Nat) (s : State),
    let i := 0x2200 + n.val
    let o := s.output n
    let run := if o.fallback ≠ 0 ∨ o.under = [] ∨ o.fresh = true ∨ s.kickAt n o.next = true then 0 else o.run + 1
    let force := s.getN i 0x13 == 1
    (s.power.enabled = true → s.power.run = true → o.on = true → o.retime = none → s.power.firstFrame = true → o.next < 2 ^ 64 →
      ∃ t, exec (.outputFrameStart n) s = .next t ∧ t.tbc = max s.tbc o.next ∧ (t.output n).on = true ∧ (t.output n).start = o.next ∧
        (t.output n).next = o.next + framePeriod o.tim.code ∧ (t.output n).frames = o.frames + 1 ∧ (t.output n).tim = o.tim ∧
        (t.output n).under = [] ∧ (t.output n).denied = [] ∧ t.getBit i 4 7 = !o.under.isEmpty ∧
        (t.output n).fallback = (if o.fallback = 0 then (if force then 2 else if s.getN i 0x12 ≠ 0 ∧ s.getN i 0x12 ≤ run then 1 else 0)
          else if force then o.fallback else if o.fallback = 2 ∨ o.leave = true then 0 else o.fallback) ∧
        t.mem = s.mem ∧ t.staging = s.staging ∧ t.queue = s.queue ∧ t.inputs = s.inputs ∧ ∀ m, m ≠ n.val → t.output m = s.output m) ∧
    (∀ (y tx : Nat) (late : List Nat), s.power.run = true → at_ ≤ s.tbc → o.on = true → o.retime = none → s.getBit i 4 8 = false →
      y < o.tim.h → 64 * tx < o.tim.w → o.fallback = 0 → o.stays = [] → s.layersOf n = [] →
      let l := s.sendSeg n y tx false (List.replicate (min o.tim.w (64 * tx + 64) - 64 * tx) (bgPix (s.getN i 9)))
      ∃ t, exec (.segmentTransmit n y tx late at_) s = .next t ∧ t.objs = s.objs ∧ t.mem = s.mem ∧ t.staging = s.staging ∧
        (t.output n).sent = onLink (s.getN i 1) false l ∧ (t.output n).sentB = onLink (s.getN i 1) true l ∧
        (t.output n).segY = y ∧ (t.output n).frames = o.frames ∧ ∀ m, m ≠ n.val → t.output m = s.output m) ∧
    (s.power.enabled = true → at_ ≤ s.tbc → o.on = true →
      ∃ t, exec (.zoneStatsPublish n at_) s = .next t ∧ t.getB (0x2500 + n) 0x0D = s.zoneStats n ∧ t.outputs = s.outputs ∧ t.mem = s.mem ∧
        t.staging = s.staging ∧
        ∀ c, c < 48 → s.getN (0x2800 + c) 0x0A / 256 = n.val → s.getN (0x2800 + c) 0x0A ≠ 0xFFFF → o.fallback = 0 →
          (t.lamp c).fresh = some (followTarget (s.getN (0x2800 + c) 0x0D) (s.getN (0x2800 + c) 0x0E)
            (leAt (s.zoneStats n) (16 + 12 * (s.getN (0x2800 + c) 0x0A % 256) + ([6, 8, 0, 2, 4] : List Nat).getD (s.getN (0x2800 + c) 0x0C) 6) 2))) ∧
    (∀ (f g : Frame) (ob : Obj), g = atObject f i 0x13 → s.Executes 2 g → s.MayWrite g ob → s.BridgeFree g →
      ∃ t, exec (.outForceSafe n f) s = .next t ∧ t.getN i 0x13 = ofBE f.payload ∧
        (t.output n).sawForce = (ofBE f.payload == 1) ∧ (t.output n).fallback = o.fallback ∧
        (t.output n).leave = (if ofBE f.payload = 1 then o.leave else o.leave || (o.sawForce && o.fallback != 0)) ∧
        t.link.resp = some { status := 0, echo := echoOf 2 g, payload := [], full := true } ∧ t.mem = s.mem ∧ t.staging = s.staging)

/-! ### Audio (chapter 10) -/

/-- A sample frame that carries no non-audio enters its feed's FIFO, or is its feed's present frame; a flagged pair is muted, until the hold
has passed; an ASRC channel locks; a rate is measured to 0.01 Hz and the change of a nominal code raises the event; a matrix
sample period takes the next frame of each running feed. Memory, staging, tenants and inputs are as before. -/
def Obligations.AudioArrivesIsMeasuredAndReachesTheMatrix : Prop :=
  ∀ (at_ : Nat) (s : State), s.power.run = true → at_ ≤ s.tbc →
    let frame := fun (t : State) => t.mem = s.mem ∧ t.staging = s.staging ∧ t.tenants = s.tenants ∧ t.inputs = s.inputs ∧ t.link = s.link ∧
      t.queue = s.queue ∧ t.outputs = s.outputs
    (∀ (n : Fin 32) (form : AudioForm) (samples : List Int) (na : BitVec 8), s.dpMember n = false →
      let most := (deEmbedded (s.input n).rate form).toNat
      let flags := declaredNonAudio (s.input n).rate form na
      let l := (List.range 16).map (fun c => if bitAt most c then clip24 (samples.getD c 0) else 0)
      (flags = 0#8 → (s.feed n).mutes = [] → (∀ p, p < 8 → preamble l p = false) →
        ∃ t, exec (.audioSampleFrameArrival n form samples na at_) s = .next t ∧ frame t ∧
          (s.feedDirect n = false → t.feed n = { s.feed n with carried := most, last := l }) ∧
          (s.feedDirect n = true → (s.feed n).fifo.length < 64 → t.feed n = { s.feed n with carried := most, fifo := (s.feed n).fifo ++ [l] })) ∧
      (∀ p, p < 8 → bitAt flags.toNat p = true →
        ∃ t, exec (.audioSampleFrameArrival n form samples na at_) s = .next t ∧ frame t ∧ (p, s.tbc) ∈ (t.feed n).mutes)) ∧
    (∀ (k : Fin 80) (p : Fin 8) (m : Nat × Nat), (s.feed k).mutes.find? (fun m => m.1 == p.val) = some m →
      m.2 + s.getN 0x2740 4 * Config.ticksPerMs < 2 ^ 64 →
      ∃ t, exec (.nonaudioHoldExpiry k p) s = .next t ∧ t.tbc = max s.tbc (m.2 + s.getN 0x2740 4 * Config.ticksPerMs) ∧ t.mem = s.mem ∧
        t.staging = s.staging ∧ t.feed k = { s.feed k with mutes := (s.feed k).mutes.filter (fun q => !(q.1 == p.val)) }) ∧
    (∀ (k : Fin 512) (locks : Bool), srcAsrc (s.srcEntry k) = true →
      exec (.asrcLock k locks at_) s = .next (s.setSrc k { s.src k with locked := locks })) ∧
    (∀ (n : Fin 16) (frames ticks : Nat), 2 ≤ frames → 0 < ticks →
      let r := min maxU32 (roundDiv ((frames - 1) * 2700000000) ticks)
      ∃ t, exec (.rateMeasure (.sapRx n) frames ticks at_) s = .next t ∧ frame t ∧ t.getN (0x2700 + n) 7 = r ∧ (t.sap n).rxCode = nominalCode r ∧
        ((s.sap n).rxCode ≠ nominalCode r → bitAt t.ev.pend 17 = true ∧
          t.getN 0x2740 9 = ((n.val % 256) <<< 16 ||| (n.val / 256 % 2) <<< 15 ||| (s.sap n).rxCode <<< 8 ||| nominalCode r)) ∧
        ((s.sap n).rxCode = nominalCode r → t.ev = s.ev)) ∧
    (s.power.enabled = true → (∀ d, d < 896 → s.destOn d = false ∧ (s.dest d).gain = 0) → (∀ r, r < 16 → s.getN (0x2748 + r) 1 = 0) →
      let p := samplePeriodAt s.anchor s.matrixRate (match s.audio.now with
        | some t => t + 1
        | none => s.tbc)
      p < 2 ^ 64 →
      ∃ t, exec .matrixSamplePeriod s = .next t ∧ t.audio.now = some p ∧ t.tbc = max s.tbc p ∧ t.mem = s.mem ∧ t.staging = s.staging ∧
        ∀ k l rest, k < 80 → s.carried k ≠ 0 → s.feedDirect k = true → (s.feed k).going = true → (s.feed k).fifo = l :: rest →
          t.feed k = { s.feed k with fifo := rest, last := l })

/-- Serial audio ports take up whole frames and repeat the last one on a framing error, which counts; they send the oldest frame
of their FIFO in the admitted slots; a port in master mode does both at the sample instants of its own rate, any other when its clock
brings them; a clock that stays away clears a slave's status. A ring moves frames towards memory while every access
is answered OKAY; a clip starts and stops by AR_PLAY. -/
def Obligations.SerialPortsAndRingsMoveFrames : Prop :=
  ∀ (n : Fin 16) (at_ : Nat) (s : State), s.power.run = true → at_ ≤ s.tbc →
    let i := 0x2700 + n.val
    let j := 0x2748 + n.val
    let x := s.sap n
    let y := s.ring n
    let ns := s.getN i 3
    let frame := fun (u t : State) => t.mem = s.mem ∧ t.staging = s.staging ∧ t.inputs = s.inputs ∧ t.link = s.link ∧ t.queue = s.queue ∧
      t.outputs = s.outputs ∧ t.tenants = u.tenants ∧ t.tbc = u.tbc
    (∀ (slots : List Nat) (bclk : Nat) (na : BitVec 8), s.getN i 1 ≠ 0 →
      let now := s.atTime (s.sapTime (s.getN i 1) (s.getN i 0x0F) x.rxAt at_)
      let bad := !sapMaster (s.getN i 1) && bclk != ns * s.getN i 4
      ∃ t, exec (.sapFrameReceived n slots bclk na at_) s = .next t ∧ frame now t ∧ (t.sap n).rxAt = some t.tbc ∧ t.getBit i 0x12 0 = true ∧ t.getBit i 0x12 1 = !bad ∧
        (bad = true → t.getN i 0x13 = satAdd maxU32 (s.getN i 0x13) 1 ∧ (∃ v, t.viewData i 0x12 = some (.num v) ∧ bitAt v 4 = true) ∧ (t.feed (0x40 + n)).good = (s.feed (0x40 + n)).good) ∧
        (bad = false → (t.feed (0x40 + n)).good =
          (List.range ns).map (fun c => if bitAt (s.getN i 5) c then slotIn (s.getN i 4) (slots.getD c 0) else 0))) ∧
    (∀ (bclk : Nat) (f : List Int) (rest : List (List Int)), s.getN i 2 ≠ 0 → s.getN i 0x11 ≠ 1 → x.tx = f :: rest →
      sapMaster (s.getN i 2) = true ∨ bclk = ns * s.getN i 4 →
      let now := s.atTime (s.sapTime (s.getN i 2) (s.getN i 0x10) x.txAt at_)
      ∃ t, exec (.sapTxFrame n bclk at_) s = .next t ∧ frame now t ∧ t.getBit i 0x12 2 = true ∧ t.getBit i 0x12 3 = true ∧
        t.sap n = { x with
          tx := rest
          txLast := f
          txAt := some t.tbc
          sent := (List.range ns).map (fun c => if bitAt (s.getN i 6) c then some (slotOut (s.getN i 4) (f.getD c 0)) else none) }) ∧
    (∀ tx : Bool, sapMaster (s.getN i (if tx then 2 else 1)) = false → s.getN i (if tx then 2 else 1) ≠ 0 →
      let now := match (if tx then x.txAt else x.rxAt) with
        | some l => s.atTime (l + absentAfter (s.getN i (if tx then 8 else 7)))
        | none => s
      ∃ t, exec (.sapClockAbsent n tx at_) s = .next t ∧ frame now t ∧ t.getBit i 0x12 (if tx then 2 else 0) = false ∧
        t.getBit i 0x12 (if tx then 3 else 1) = false ∧ t.getBit i 0x12 (if tx then 0 else 2) = s.getBit i 0x12 (if tx then 0 else 2) ∧
        (tx = true → t.sap n = { x with sent := [] })) ∧
    (∀ frames : Nat, s.getN j 1 = 3 → 0 < s.frameBytes n → 0 < s.ringFrames n →
      let q := s.xbRead 10 (s.ringTag n) (s.getN j 2 + 4) 4
      let used := (y.prod + 2 ^ 32 - ofLE q.2.data) % 2 ^ 32
      let k := min (min (min frames 32) y.buf.length) (s.ringFrames n - y.prod % s.ringFrames n)
      let fit := min k (s.ringFrames n - used)
      let a := s.getN j 2 + 64 + y.prod % s.ringFrames n * s.frameBytes n
      q.2.code = 0 → (q.1.writeMem 10 (s.ringTag n) a ((y.buf.take fit).flatMap (fun f => f.flatMap (sampleBytes (s.getN j 5))))).2.code = 0 →
      ∃ t, exec (.audioRingTransfer n frames at_) s = .next t ∧ t.ring n = { y with buf := y.buf.drop k, times := y.times.drop k, prod := (y.prod + fit) % 2 ^ 32 } ∧
        t.staging = s.staging ∧ t.tenants = s.tenants) ∧
    (∀ (f g : Frame) (ob : Obj) (play : Bool), g = { atObject f j 0x0B with len := 1#16, payload := [if play then 1#8 else 0#8] } →
      s.Executes 2 g → s.MayWrite g ob → s.BridgeFree g →
      ∃ t, exec (if play then .arPlayStart n f else .arPlayStop n f) s = .next t ∧
        t.link.resp = some { status := 0, echo := echoOf 2 g, payload := [], full := true } ∧ t.mem = s.mem ∧ t.staging = s.staging ∧
        (play = true → s.getN j 1 = 2 → t.ring n = { y with start := true }) ∧
        (play = false → t.ring n = { y with
          start := false
          stop := if s.getN j 1 = 2 ∧ s.getBit j 8 1 = true then some (roundDiv (s.getN 0x2740 3 * s.matrixRate) 1000) else y.stop }))

/-! ### Lamps (chapter 11) -/

/-- A lamp tick is the next one of the grid and leaves no channel above full scale, and the sum of the currents within the budget; waiting
rises are applied no sooner than 50 µs after the evaluation; a PWM period carries its
duty and a measurement that passes keeps the verdict good; 500 ms without a pass make it unverified. -/
def Obligations.LampTicksAndPeriodsDriveTheChannels : Prop :=
  ∀ (c : Fin 48) (at_ : Nat) (s : State), s.power.enabled = true → s.power.run = true →
    let i := 0x2800 + c.val
    let x := s.lamp c
    (∀ meas : List LampMeas,
      let p := samplePeriodAt s.anchor 1000 (match s.lamps.now with
        | some t => t + 1
        | none => s.tbc)
      p < 2 ^ 64 →
      ∃ t, exec (.lampTick meas) s = .next t ∧ t.lamps.now = some p ∧ t.tbc = max s.tbc p ∧ t.staging = s.staging ∧
        (∀ k, k < 48 → (t.lamp k).lev ≤ lampFull) ∧
        (0 < s.getN 0x2860 1 → (∀ k, k < 48 → s.lampPrio k ≤ 7) →
          ((List.range 48).map (fun k => (t.lamp k).x * t.getN (0x2800 + k) 7)).foldl (· + ·) 0 ≤ s.getN 0x2860 1 * 2 ^ 39)) ∧
    (at_ ≤ s.lamps.evalAt + riseAfter → s.lamps.evalAt + riseAfter < 2 ^ 64 →
      ∃ t, exec (.budgetRiseApply at_) s = .next t ∧ t.objs = s.objs ∧ t.mem = s.mem ∧ t.staging = s.staging ∧
        t.tbc = max s.tbc (s.lamps.evalAt + riseAfter) ∧
        t.lamp c = (match x.rise with
          | some d => { x with drive := d, rise := none }
          | none => x)) ∧
    (∀ m : LampMeas, s.pwmStart c at_ < 2 ^ 64 → x.drive.mode ≠ 1 →
      ∃ t, exec (.pwmPeriodStart c m at_) s = .next t ∧ t.lamp c = { x with on := 0, duty := 0, block := 0 } ∧ t.getBit i 8 7 = false ∧
        t.getBit i 8 8 = s.pwmUnlocked c ∧ t.tbc = max s.tbc (s.pwmStart c at_) ∧ t.mem = s.mem ∧ t.staging = s.staging ∧ ∀ k, k ≠ c.val → t.lamp k = s.lamp k) ∧
    (∀ m : LampMeas, s.pwmStart c at_ < 2 ^ 64 → x.drive.mode = 1 → x.held = false → m.pass = true → x.opened = false → x.lev ≠ 0 →
      s.getN i 1 = 1 → 3 * 65536 * (s.pwmPeriod c).2 ≤ 2 * x.drive.duty * (s.pwmPeriod c).1 →
      ∃ t, exec (.pwmPeriodStart c m at_) s = .next t ∧ t.tbc = max s.tbc (s.pwmStart c at_) ∧ t.getBit i 8 8 = s.pwmUnlocked c ∧
        t.lamp c = { x with duty := x.drive.duty, on := x.drive.duty, block := 0, fails := 0, lastPass := some t.tbc } ∧
        t.getBit i 8 3 = false ∧ t.getBit i 8 4 = false ∧ t.getBit i 8 7 = false ∧ t.getN i 0x14 = min 0xFFFF m.current ∧ t.mem = s.mem ∧
        t.staging = s.staging ∧ ∀ k, k ≠ c.val → t.lamp k = s.lamp k) ∧
    (∀ p, x.lastPass = some p → x.opened = false → x.lev ≠ 0 → s.getN i 1 = 1 → p + 500 * Config.ticksPerMs < 2 ^ 64 →
      ∃ t, exec (.verifyAgeExpiry c) s = .next t ∧ t.lamp c = x ∧ t.getBit i 8 3 = false ∧ t.getBit i 8 4 = true ∧
        t.tbc = max s.tbc (p + 500 * Config.ticksPerMs) ∧ t.staging = s.staging)

/-- An open channel is tried once a second and a pass clears it; a shorted one is tested every 10 s; the gate watchdog holds a gate low; the
thermistors and the die sensor are sampled; the neighbour test leaves its result and the faults of every channel. -/
def Obligations.LampFaultsAreRetestedAndSensorsSampled : Prop :=
  ∀ (c : Fin 48) (at_ : Nat) (s : State),
    let i := 0x2800 + c.val
    let x := s.lamp c
    (s.power.enabled = true → s.power.run = true → x.opened = true → x.retryAt < 2 ^ 64 →
      exec (.openRetryBurst c false) s = .next ((s.atTime x.retryAt).setLamp c { x with retryAt := max s.tbc x.retryAt + Config.ticksPerSec }) ∧
      ∃ t, exec (.openRetryBurst c true) s = .next t ∧ (t.lamp c).opened = false ∧ (t.lamp c).fails = 0 ∧
        (t.lamp c).lastPass = some (max s.tbc x.retryAt) ∧ t.getBit i 8 3 = (x.lev == 0 || s.getN i 1 != 1) ∧ t.getBit i 8 4 = (x.lev == 0 || s.getN i 1 != 1) ∧
        t.getN i 0x18 = satAdd maxU32 (s.getN i 0x18) 1 ∧ bitAt t.ev.pend 18 = true ∧ t.staging = s.staging) ∧
    (∀ lvmon : Nat, s.power.enabled = true → s.lampBit c 5 = true →
      (4 * s.stringMv lvmon < s.getN i 0x11 →
        ∃ t, exec (.shortRetest c lvmon) s = .next t ∧ t.getBit i 8 5 = true ∧ t.getN i 0x15 = s.stringMv lvmon ∧
          t.lamp c = { x with retestAt := x.retestAt + 10 * Config.ticksPerSec } ∧ t.mem = s.mem ∧ t.staging = s.staging) ∧
      (s.getN i 0x11 ≤ 4 * s.stringMv lvmon →
        ∃ t, exec (.shortRetest c lvmon) s = .next t ∧ t.getBit i 8 5 = false ∧ t.getN i 0x15 = s.stringMv lvmon ∧
          t.getN i 0x18 = satAdd maxU32 (s.getN i 0x18) 1 ∧ bitAt t.ev.pend 18 = true ∧ t.staging = s.staging)) ∧
    exec (.lampGateWatchdog c at_) s = .next ((s.atTime at_).setLamp c { x with held := true, drive := {}, rise := none, on := 0 }) ∧
    (∀ (codes : List (BitVec 12)) (die : Int), s.power.run = true → at_ ≤ s.tbc →
      ∃ t, exec (.thermistorSample codes die at_) s = .next t ∧ t.power = { s.power with die := die } ∧ t.getN 0x2860 0x0D = ofInt 16 die ∧
        t.mem = s.mem ∧ t.staging = s.staging ∧ t.lamps.ch = s.lamps.ch ∧
        ∀ k, k < 8 → (s.getN (0x2850 + k) 1 = 0 → t.getN (0x2850 + k) 6 = 0 ∧ tabGet [] t.lamps.therm k = []) ∧
          (s.getN (0x2850 + k) 1 ≠ 0 → tabGet [] t.lamps.therm k = ((codes.getD k 0#12).toNat :: tabGet [] s.lamps.therm k).take 16)) ∧
    (s.power.open_ = true → s.power.neighbourOk = true → at_ ≤ s.tbc → s.queue.any (fun e => e.res.isNone && e.job == .neighbourTest) = true →
      ∃ t, exec (.neighbourTest [] at_) s = .next t ∧ t.getN 0x2860 0x0A = 0 ∧ (∀ k, k < 48 → t.getBit (0x2800 + k) 8 15 = false) ∧
        t.staging = s.staging ∧ t.lamps.ch = s.lamps.ch ∧ t.queue.length ≤ s.queue.length)

/-! ### Kickoff and Whistle (chapter 6) -/

/-- PREPARE, KICKOFF and WHISTLE of a tenant with the right to them, on a device in scope with no worker: PREPARE enters state 1; a KICKOFF
of a prepared set arms it at its epoch; a WHISTLE arms and takes its entries from the staging store; each waits in the bridge
queue, answered 0x08. -/
def Obligations.PreparesKickoffsAndWhistlesAreAccepted : Prop :=
  ∀ (ty : Nat) (f : Frame) (s : State), s.Executes ty f → (s.tenant f.ten.toNat).session = true → s.kickRight f.ten.toNat = true → s.HasRoom f →
    s.power.open_ = true → s.power.enabled = true → s.power.run = true → s.spans.members = [] → bitAt (s.getN 0x1F00 4) 0 = true →
    (ty = 5 → f.len = 0#16 → s.koAccepts false = true →
      ∃ t, exec (.prepare f) s = .next t ∧ s.Queued t 5 f .prepare ∧ t.koState = 1 ∧ t.getN 0x1F00 3 = 0 ∧
        ∃ k, t.kick = some k ∧ k.ten = f.ten.toNat ∧ k.kicked = false ∧ k.selfIn = true ∧ k.scope = [] ∧ k.own = none ∧ k.plan = []) ∧
    (ty = 6 → f.len = 8#16 → ∀ k, s.koState = 2 → s.kick = some k → k.scope = [] → k.lost = false → k.kicked = false →
      k.fixed = none → k.sent = false →
      let e := s.epochFor (some (ofBE f.payload)) false
      ∃ t, exec (.kickoff f) s = .next t ∧ s.Queued t 6 f (.kickoff (some (ofBE f.payload)) false) ∧ t.koState = 3 ∧ t.getN 0x1F00 1 = e.1 ∧
        t.getBit 0x1F03 7 0 = (s.getBit 0x1F03 7 0 || e.2) ∧
        ∃ k', t.kick = some k' ∧ k'.kicked = true ∧ k'.fixed = some e.1 ∧ k'.sent = true ∧ k'.kten = f.ten.toNat ∧
          k'.waits = false ∧ k'.armed = [] ∧ k'.plan ≠ []) ∧
    (ty = 7 → f.len = 8#16 → s.whAccepts = true →
      let e := s.epochFor (some (ofBE f.payload)) false
      let es := (s.carriedBy f.ten.toNat).filter s.whClass
      ∃ t, exec (.whistle f) s = .next t ∧ t.queue = s.queue ++ [entryOf 7 f (.whistle (some (ofBE f.payload)) false)] ∧
        t.link.resp = some { status := 8, echo := echoOf 7 f, payload := [], full := true } ∧ t.whState = 1 ∧ t.getN 0x1F08 1 = e.1 ∧
        t.staging = s.staging.filter (fun x => !es.contains x) ∧ t.kick = s.kick ∧ t.mem = s.mem ∧
        ∃ w, t.whis = some w ∧ w.entries = es ∧ w.waits = false)

/-- This device's prepare: out of scope it answers at once, in scope it answers and keeps the staging store within what it was. With every
answer in and none refused a PREPARE reaches state 2; a refusal reaches state 6 with the event. A tunnel's apply point sets or
releases its slot, with the reservation where it sends; the
apply point of a Kickoff that carries nothing here completes it; a Whistle's last one applies its entries. -/
def Obligations.KickoffsArePreparedAndApplied : Prop :=
  ∀ (at_ : Nat) (s : State), s.power.run = true → s.power.enabled = true → s.power.open_ = true → at_ ≤ s.tbc →
    (∀ k : Kick, s.kick = some k →
      (∀ paths, s.koState = 1 → k.own = none → k.selfIn = false →
        exec (.devicePrepare paths at_) s = .next { s with kick := some { k with own := some none } }) ∧
      (∀ paths, s.koState = 1 → k.own = none → k.selfIn = true →
        ∃ t r, exec (.devicePrepare paths at_) s = .next t ∧ t.kick = some { k with own := some r } ∧ (∀ x, x ∈ t.staging → x ∈ s.staging) ∧
          t.mem = s.mem ∧ t.tenants = s.tenants ∧ t.queue = s.queue ∧ t.inputs = s.inputs ∧ t.outputs = s.outputs) ∧
      (s.koState = 1 → k.selfIn = true → k.scope = [] → k.absent = none → k.left = [] → k.lost = false →
        (k.own = some none → k.kicked = false →
          ∃ t, exec (.prepareResult [] at_) s = .next t ∧ t.koState = 2 ∧ t.kick = s.kick ∧ t.staging = s.staging ∧ t.mem = s.mem) ∧
        (∀ r, k.own = some (some r) →
          ∃ t, exec (.prepareResult [] at_) s = .next t ∧ t.koState = 6 ∧ t.kick = none ∧ bitAt t.ev.pend 14 = true ∧
            t.getN 0x1F03 1 = checkCode r.check ∧ t.getN 0x1F03 2 = r.inst ∧ t.getN 0x1F03 3 = r.demand ∧ t.getN 0x1F03 4 = r.cap ∧
            t.getN 0x1F03 5 = r.obj ∧ t.staging = s.staging)) ∧
      (∀ q, s.mgr = true → k.plan = [(.device, q)] → k.waits = false → k.armed = [] → s.whis = none → s.koState = 3 ∨ s.koState = 4 →
        s.koEntries k = [] → q < 2 ^ 64 →
        ∃ t, exec (.kickoffApplyPoint .device) s = .next t ∧ t.koState = 5 ∧ t.kick = none ∧ t.tbc = max s.tbc q ∧ t.staging = s.staging)) ∧
    (∀ (p slot mbps : Nat) (use : SlotUse) (on : Bool), p < 4 → slot < 8 →
      let x := s.port p
      ∃ t, exec (.kickoffApplyPoint (.tunnel p slot mbps use on)) s = .next t ∧ t.objs = s.objs ∧ t.mem = s.mem ∧ t.staging = s.staging ∧
        (∀ v, use = .arrive v → (t.port p).out = x.out ∧
          (t.port p).inn = (if on then tabPut x.inn slot (v.map (·.val)) else tabErase slot x.inn)) ∧
        ((∀ v, use ≠ .arrive v) → (t.port p).inn = x.inn ∧
          (t.port p).out = (if on then tabPut x.out slot mbps else tabErase slot x.out)) ∧ ∀ q, q ≠ p → t.port q = s.port q) ∧
    (∀ (w : Whis) (part : Part) (q : Nat), s.whis = some w → w.plan = [(part, q)] → part = .device → w.waits = false → w.armed = [] →
      w.entries = [] → q < 2 ^ 64 →
      ∃ t, exec (.whistleApplyPoint part) s = .next t ∧ t.whState = 3 ∧ t.whis = none ∧ t.tbc = max s.tbc q ∧ t.staging = s.staging ∧
        t.mem = s.mem ∧ t.kick = s.kick)

/-! ### Span links (chapter 5) -/

/-- A link comes up with the lanes that align and says HELLO; a link with no worker and no tunnel behind it goes down, counted, with its
port's state, and where alignment was lost that is a violation; an idle block carries nothing; the first missing ALIGN is noted and the
next takes the link down; a bad control block counts; the port's own control blocks go out. -/
def Obligations.SpanLinksComeUpAndGoDown : Prop :=
  ∀ (p : Fin 4) (at_ : Nat) (s : State), s.power.run = true → at_ ≤ s.tbc →
    let i := 0x2C00 + p.val
    let x := s.port p
    let frame := fun (t : State) => t.mem = s.mem ∧ t.staging = s.staging ∧ t.tenants = s.tenants ∧ t.link = s.link ∧ t.kick = s.kick ∧
      t.outputs = s.outputs ∧ t.tbc = s.tbc
    exec (.idle p) s = .next s ∧
    (∀ locked : BitVec 4, x.lanes = 0 → s.getN i 1 ≠ 0 → lanesOf locked ≠ 0 →
      ∃ t, exec (.spanLinkUp p locked at_) s = .next t ∧ frame t ∧ (t.port p).lanes = lanesOf locked ∧ t.getN i 2 = 2 ∧ t.getN i 3 = lanesOf locked ∧
        (∀ q, q ≠ p.val → t.port q = s.port q) ∧ t.queue = s.queue ∧ t.inputs = s.inputs) ∧
    (x.lanes ≠ 0 → s.upPort ≠ some p.val → s.spans.members = [] → s.tunnelsBy p = [] →
      (∀ lost : Bool, ∃ t, exec (.linkDown p lost at_) s = .next t ∧ frame t ∧ (t.port p).lanes = 0 ∧ (t.port p).peer = none ∧ t.getN i 2 = s.getN i 1 ∧
        t.getN i 3 = 0 ∧ t.getN i 4 = 0 ∧ t.getN i 0x0C = satAdd maxU32 (s.getN i 0x0C) 1 ∧
        t.getN i 0x0B = (if lost then satAdd maxU32 (s.getN i 0x0B) 1 else s.getN i 0x0B) ∧ t.queue = s.queue) ∧
      (x.missed ≠ 0 → ∃ t, exec (.align p false at_) s = .next t ∧ frame t ∧ (t.port p).lanes = 0 ∧
        t.getN i 0x0C = satAdd maxU32 (s.getN i 0x0C) 1 ∧ t.getN i 0x0B = satAdd maxU32 (s.getN i 0x0B) 1)) ∧
    (x.lanes ≠ 0 → exec (.align p true at_) s = .next (s.setPort p { x with missed := 0 })) ∧
    (x.lanes ≠ 0 → x.missed = 0 → exec (.align p false at_) s = .next (s.setPort p { x with missed := 1 })) ∧
    (∀ (crcBad : Bool) (typ : BitVec 8), x.lanes ≠ 0 →
      ∃ t, exec (.badControlBlock p crcBad typ at_) s = .next t ∧ frame t ∧ t.getN i 0x0B = satAdd maxU32 (s.getN i 0x0B) 1 ∧
        (t.port p).lanes = x.lanes ∧ (t.port p).chans = x.chans) ∧
    (x.lanes ≠ 0 →
      (∃ t, exec (.alignInterval p) s = .next t ∧ frame t ∧ t.objs = s.objs ∧
        ∀ l, l < x.lanes → x.lanes ≤ 4 → tabGet [] (t.port p).sent (0x2D00 + l) = ctrlBlock [0x2D#8, BitVec.ofNat 8 l, BitVec.ofNat 8 x.lanes]) ∧
      ∃ t, exec (.creditInterval p) s = .next t ∧ frame t ∧ t.objs = s.objs ∧ (t.port p).chans = x.chans ∧
        ∀ ch, ch < 3 ∨ (8 ≤ ch ∧ ch < 16) → tabGet [] (t.port p).sent (0x6600 + ch) =
          ctrlBlock ([0x66#8, BitVec.ofNat 8 ch] ++ toBE 2 ((x.chan ch).gave % 65536) ++ [BitVec.ofNat 8 (x.chan ch).expect_]))

/-- The time exchange: TSYNC and DELAY_REQ go out with the port's sequence, a TSYNC of the parent is kept with its arrival, a DELAY_REQ of
a child is answered with its arrival time, and a DELAY_RSP that matches completes the exchange with the delay and the filtered offset,
which is what TBC lags behind. How halves and conversions are rounded is the model's choice (log entry 120). -/
def Obligations.TimeIsExchangedAcrossALink : Prop :=
  ∀ (p : Fin 4) (seq : BitVec 8) (stamp : BitVec 40) (frac : Fin 32) (at_ : Nat) (s : State), s.power.run = true → at_ ≤ s.tbc →
    let i := 0x2C00 + p.val
    let x := s.port p
    let now := stamp40 s.tbc frac
    let frame := fun (t : State) => t.mem = s.mem ∧ t.staging = s.staging ∧ t.tenants = s.tenants ∧ t.link = s.link ∧ t.queue = s.queue ∧
      t.outputs = s.outputs ∧ t.inputs = s.inputs ∧ t.tbc = s.tbc
    (s.upPort = some p.val → exec (.tsync p seq stamp frac at_) s = .next (s.setPort p { x with t12 := some (seq.toNat, stamp.toNat, now) })) ∧
    (s.getN i 2 = 3 → x.lanes ≠ 0 →
      ∃ t, exec (.delayReq p seq frac at_) s = .next t ∧ frame t ∧ t.objs = s.objs ∧ (t.port p).chans = x.chans ∧
        tabGet [] (t.port p).sent 0x55 = ctrlBlock ([0x55#8, seq] ++ toBE 5 now)) ∧
    (∀ t1 t2 t3 q, s.upPort = some p.val → x.t12 = some (q, t1, t2) → x.t3 = some (seq.toNat, t3) → s.memberState = 3 →
      let d1 := toInt 40 (t2 + 2 ^ 40 - t1)
      let d2 := toInt 40 (stamp.toNat + 2 ^ 40 - t3)
      let delay := roundDivI (d1 + d2 + partsOf (toInt 32 (s.getN i 8))) 2
      ∃ t, exec (.delayRsp p seq stamp) s = .next t ∧ frame t ∧ (t.port p).t3 = none ∧ (t.port p).offs = ((d1 - delay) :: x.offs).take 16 ∧
        t.getN i 5 = ofInt 32 (psOf delay) ∧
        (let err := psOf (meanOffset (((d1 - delay) :: x.offs).take 16))
        t.getN i 6 = ofInt 32 (clampInt (-0x80000000) 0x7FFFFFFF err) ∧ (t.cand 4).lag = some (-err))) ∧
    (s.upPort = some p.val → s.downPorts = [] → x.lanes ≠ 0 →
      ∃ t, exec (.timeExchangeTick frac at_) s = .next t ∧ frame t ∧ t.objs = s.objs ∧ (t.port p).t3 = some (x.seq, now) ∧
        (t.port p).seq = (x.seq + 1) % 256 ∧ tabGet [] (t.port p).sent 0x4B = ctrlBlock [0x4B#8, BitVec.ofNat 8 x.seq]) ∧
    (s.upPort = none → s.downPorts = [p.val] → x.lanes ≠ 0 →
      ∃ t, exec (.timeExchangeTick frac at_) s = .next t ∧ frame t ∧ t.objs = s.objs ∧ (t.port p).seq = (x.seq + 1) % 256 ∧
        tabGet [] (t.port p).sent 0x33 = ctrlBlock ([0x33#8, BitVec.ofNat 8 x.seq] ++ toBE 5 now))

/-- Packets: an accepted one advances the sequence expected and the credits received, which are freed once its message is complete; one
with an error counts and is logged under its cause, and a tunnel's, which is never sent again, still frees its credits; a CREDIT
releases what it acknowledges; after 20 µs without progress every unacknowledged packet is sent again. When credits are freed is the
model's reading (log entry 86). -/
def Obligations.PacketsFollowCreditsAndSequences : Prop :=
  ∀ (p : Fin 4) (at_ : Nat) (s : State), s.power.run = true → at_ ≤ s.tbc →
    let i := 0x2C00 + p.val
    let x := s.port p
    x.lanes ≠ 0 →
    (∀ k : SpanPkt,
      let ch := k.ch.toNat
      let c := x.chan ch
      let n := credits k.len
      let got := (c.got + n) % 65536
      let whole := !(reliable ch) || !k.more
      (ch ≠ 0 → s.packetFault p k = none →
        ∃ t, exec (.spanPacket p k at_) s = .next t ∧ t.objs = s.objs ∧ t.mem = s.mem ∧ t.staging = s.staging ∧ t.queue = s.queue ∧
          (t.port p).chan ch = { c with
            got := got
            gave := if whole then got else c.gave
            part_ := if whole then [] else c.part_ ++ k.data
            expect_ := if reliable ch then (c.expect_ + 1) % 256 else c.expect_ }) ∧
      (∀ v, s.packetFault p k = some v →
        ∃ t, exec (.spanPacket p k at_) s = .next t ∧ t.getN i 0x0B = satAdd maxU32 (s.getN i 0x0B) 1 ∧
          t.getN i 0x0A = (if v = 0x22 then satAdd maxU32 (s.getN i 0x0A) 1 else s.getN i 0x0A) ∧
          t.mem = s.mem ∧ t.staging = s.staging ∧ t.queue = s.queue ∧
          (if (v = 0x22 ∨ v = 0x25 ∨ v = 0x26) ∧ 8 ≤ ch ∧ chanBudget ch ≠ 0 ∧ k.len ≤ 512 ∧
              (c.got + 65536 - c.gave) % 65536 + n ≤ chanBudget ch
            then (t.port p).chan ch = { c with got := got, gave := (c.gave + n) % 65536 }
            else (t.port p).chans = x.chans))) ∧
    (∀ (ch : BitVec 8) (freed : BitVec 16) (next : BitVec 8), chanBudget ch.toNat ≠ 0 → (x.chan ch.toNat).waiting = [] →
      let c := x.chan ch.toNat
      let acked := if c.unacked.any (fun q => q.seq == next.toNat) then c.unacked.dropWhile (fun q => q.seq != next.toNat)
        else if c.seq = next.toNat then [] else c.unacked
      exec (.credit p ch freed next at_) s = .next (s.setPort p (x.setChan ch.toNat
        { c with freed := freed.toNat, unacked := acked, progress := if acked = c.unacked then c.progress else s.tbc }))) ∧
    (∀ ch : Fin 3, (x.chan ch).unacked ≠ [] → ch.val ≠ 2 ∨ s.mgr = false → (x.chan ch).progress + 540 < 2 ^ 64 →
      ∃ t, exec (.reliableResendTimeout p ch at_) s = .next t ∧ t.tbc = max s.tbc ((x.chan ch).progress + 540) ∧ t.objs = s.objs ∧ t.mem = s.mem ∧
        (t.port p).chan ch = { x.chan ch with progress := t.tbc } ∧
        (t.port p).blocks = x.blocks + ((x.chan ch).unacked.flatMap (packetBlocks ch)).length)

/-- Membership: HELLO makes the peer known; a worker takes the lowest port whose peer qualifies as its upstream port; a manager grants a
join with a bound address and counts it; a refusal and its retry; a grant makes this worker a member, and moves TBC to its parent's
where they differ by more than 10 µs; a LEAVE of its parent makes it none; the roll call gathers every entry and ends with the census.
How a grant tells apart times that the 40-bit stamps do not is the model's choice (log entry 123), and so is that a LEAVE without
addresses names the child itself (log entry 119). -/
def Obligations.WorkersJoinAnswerTheRollCallAndLeave : Prop :=
  ∀ (p : Fin 4) (at_ : Nat) (s : State), s.power.run = true → at_ ≤ s.tbc → (s.port p).lanes ≠ 0 →
    let i := 0x2C00 + p.val
    let x := s.port p
    let frame := fun (t : State) => t.mem = s.mem ∧ t.staging = s.staging ∧ t.tenants = s.tenants ∧ t.link = s.link
    (∀ h : HelloMsg, helloOk h = true → s.helloOpen p h.role.toNat h.state.toNat = true → x.peer = none →
      ∃ t, exec (.hello p h at_) s = .next t ∧ frame t ∧ t.getN i 4 = h.serial.toNat ∧ t.getN i 3 = min x.lanes h.lanes.toNat ∧
        (t.port p).peer = some { role := h.role.toNat, depth := h.depth.toNat, lanes := h.lanes.toNat, serial := h.serial.toNat, bus := h.bus.toNat, state := h.state.toNat }) ∧
    ((∀ q, q < 4 → (s.port q).lanes = 0 ∨ (s.port q).peer ≠ none) →
      (s.mgr = true → exec (.helloTick at_) s = .next s) ∧
      (∀ q : Peer, s.mgr = false → s.upPort = none → x.peer = some q → q.parent = true →
        (∀ r, r < p.val → ∀ u : Peer, (s.port r).lanes ≠ 0 → (s.port r).peer = some u → u.parent = false) →
        ∃ t, exec (.helloTick at_) s = .next t ∧ frame t ∧ t.memberState = 2 ∧ t.upPort = some p.val ∧ t.tbc = s.tbc)) ∧
    (∀ (serial : BitVec 64) (addr : BitVec 8) (a : Nat), s.mgr = true → s.getN i 2 = 3 → s.spans.members = [] → s.assign serial.toNat addr.toNat = some a →
      ∃ t, exec (.joinReq p serial addr 0#8 0#16 at_) s = .next t ∧ frame t ∧ s.kick = t.kick ∧
        t.spans.members = [{ addr := a, serial := serial.toNat, depth := 1, parent := 0, pport := p.val, path := p.val * 16384, port := p.val }] ∧
        t.getN 0x1201 1 = 1 ∧ t.getN 0x1201 2 = (s.getN 0x1201 2 + 1) % 2 ^ 32 ∧ t.getN 0x1201 3 = s.tbc ∧ bitAt t.ev.pend 9 = true ∧
        t.bindings.any (fun b => b.1 == serial.toNat && b.2.1 == a % 256) = true) ∧
    (s.mgr = false → s.upPort = some p.val →
      (∀ (hops : BitVec 8) (path : BitVec 16) (reason : BitVec 8), s.memberState = 2 → s.serial < 2 ^ 64 →
        ∃ t, exec (.joinRefuse p (BitVec.ofNat 64 s.serial) hops path reason at_) s = .next t ∧ frame t ∧
          t.memberState = (if reason = 2#8 then 5 else 4) ∧ t.spans.retryAt = some (s.tbc + 10 * Config.ticksPerSec) ∧ bitAt t.ev.pend 10 = true) ∧
      (∀ d, s.spans.retryAt = some d → d ≤ s.tbc →
        ∃ t, exec (.joinRetryTimer at_) s = .next t ∧ frame t ∧ t.memberState = 2 ∧ t.spans.retryAt = none ∧ t.spans.joining = some s.tbc) ∧
      (∀ (addr hops : BitVec 8) (path : BitVec 16) (clock : GrantClock) (bus : BitVec 8), s.memberState = 2 → s.serial < 2 ^ 64 →
        s.power.enabled = true →
        let off := roundDivI (meanOffset x.offs) 32 + clock.turns * 2 ^ 35
        ∃ t, exec (.joinGrant p (BitVec.ofNat 64 s.serial) addr hops path clock bus at_) s = .next t ∧ frame t ∧ t.memberState = 3 ∧
          t.ownAddr = addr.toNat ∧ t.ownDepth = hops.toNat ∧ t.anchor = clock.a.toNat ∧ t.refs.anchored = true ∧ t.spans.bus = bus.toNat ∧
          t.spans.path = path.toNat ∧ t.spans.joining = none ∧
          (off.natAbs ≤ 270 → t.tbc = s.tbc) ∧
          (270 < off.natAbs → t.tbc = ((Int.ofNat s.tbc - off) % 2 ^ 64).toNat ∧ bitAt t.ev.pend 8 = true)) ∧
      (∀ reason : BitVec 8, (∀ q, q < 4 → (s.port q).peer = none) →
        ∃ t, exec (.leave p reason [] at_) s = .next t ∧ frame t ∧ t.memberState = 1 ∧ t.ownAddr = 0xFF ∧ t.ownDepth = 0xFF ∧ t.upPort = none ∧
          t.spans.members = []) ∧
      (∀ gen : BitVec 32, s.memberState = 3 → ∃ t, exec (.roll p gen at_) s = .next t ∧ frame t ∧ t.objs = s.objs ∧ t.queue = s.queue ∧
        t.spans.members = s.spans.members)) ∧
    (s.mgr = true → s.spans.members ≠ [] →
      ∃ t, exec (.rollCallTimer at_) s = .next t ∧ frame t ∧ t.objs = s.objs ∧ t.spans.members = s.spans.members ∧
        t.spans.rolls = s.spans.rolls ++ [{ gen := (s.spans.gen + 1) % 2 ^ 32, at_ := s.tbc, auto_ := true, got := [] }]) ∧
    (∀ f : Frame, s.Executes 0xA f → (s.tenant f.ten.toNat).session = true → f.len = 0#16 → s.HasRoom f → s.power.open_ = true → s.spans.members ≠ [] →
      ∃ t, exec (.rollCall f) s = .next t ∧ s.Queued t 0xA f .rollCall ∧ t.spans.members = s.spans.members ∧
        t.spans.rolls = s.spans.rolls ++ [{ gen := (s.spans.gen + 1) % 2 ^ 32, at_ := s.tbc, auto_ := false, got := [] }]) ∧
    (∀ (r : Roll) (gen : BitVec 32) (entry : List Byte) (m n : Member), s.mgr = true → s.getN i 2 = 3 → s.spans.rolls = [r] → r.gen = gen.toNat →
      s.spans.members.find? (fun m => m.addr == byteAt (padTo 16 entry) 0) = some m → n ∈ s.spans.members → n.addr ≠ m.addr →
      r.got.any (fun g => g.1 == n.addr) = false →
      ∃ t, exec (.rollRsp p gen entry at_) s = .next t ∧ frame t ∧ t.objs = s.objs ∧ t.queue = s.queue ∧ t.spans.members = s.spans.members ∧
        t.spans.rolls = [{ r with got := r.got.filter (fun g => g.1 != m.addr) ++ [(m.addr, patch (padTo 16 entry) 2 [BitVec.ofNat 8 m.parent])] }]) ∧
    (∀ (r : Roll) (e : BEntry), s.mgr = true → s.spans.rolls = [r] → r.auto_ = false → r.at_ + 20 * Config.ticksPerMs ≤ s.tbc →
      s.queue = [e] → e.job = .rollCall → e.res = none → e.cue = none → e.bcast = false →
      ∃ t, exec (.rollCallTimeout at_) s = .next t ∧ frame t ∧ t.objs = s.objs ∧ t.spans = { s.spans with rolls := [] } ∧
        t.queue = [{ e with res := some { status := 0, payload := s.census r } }] ∧ bitAt t.ev.pend 0 = true)

/-- Subscriptions and mirrors: a worker takes up and drops a subscription and answers; it pushes a value that changed; the manager's mirror
takes what is pushed or snooped; an eviction is taken and acknowledged; stale answers only count. -/
def Obligations.SubscriptionsAndMirrorsFollowTheirMessages : Prop :=
  ∀ (p : Fin 4) (k : SubKey) (at_ : Nat) (s : State), s.power.run = true → at_ ≤ s.tbc → (s.port p).lanes ≠ 0 →
    let frame := fun (t : State) => t.mem = s.mem ∧ t.staging = s.staging ∧ t.link = s.link ∧ t.kick = s.kick ∧ t.outputs = s.outputs ∧ t.tbc = s.tbc
    (s.mgr = false → s.upPort = some p.val → k.w.toNat = s.ownAddr →
      (s.subCode k = 0 → s.spans.subs.any (isSubOf k) = false →
        ∃ t, exec (.subAdd p k at_) s = .next t ∧ frame t ∧ t.objs = s.objs ∧
          t.spans.subs = s.spans.subs ++ [{ ten := k.ten.toNat, idx := k.idx.toNat, sub := k.sub.toNat }]) ∧
      (∀ u, s.spans.subs = [u] → isSubOf k u = true → u.idx ≠ 0x1400 → s.spans.evicted.length < 64 →
        ∃ t, exec (.subDel p k at_) s = .next t ∧ frame t ∧ t.spans.subs = [] ∧
          t.spans.evicted = s.spans.evicted ++ [{ ten := u.ten, idx := u.idx, sub := u.sub, val := s.subValue u.ten u.idx u.sub, latch := s.tbc }]) ∧
      (s.spans.subs.find? (·.drop_) = none →
        ∃ t, exec (.evictAck p k at_) s = .next t ∧ frame t ∧ t.objs = s.objs ∧ t.spans.subs = s.spans.subs ∧
          t.spans.evicted = s.spans.evicted.filter (fun e => !isEvictedOf k e)) ∧
      (∀ tag : BitVec 8, s.spans.subs.any (isSubOf k) = true →
        exec (.snoop p k tag at_) s = .next (s.sendUp 2 ([0x18#8] ++ keyOf k ++ [tag] ++ [0#8] ++
          valueBytes s.tbc (s.subValue k.ten.toNat k.idx.toNat k.sub.toNat))))) ∧
    (∀ (ten : Fin 128) (u : Sub), s.mgr = false → s.memberState = 3 → s.spans.subs = [u] → u.ten = ten.val → u.idx = k.idx.toNat → u.sub = k.sub.toNat →
      u.sent = false ∨ (s.subValue u.ten u.idx u.sub ≠ u.val ∧ u.at_ + 10 * Config.ticksPerMs ≤ s.tbc) →
      ∃ t, exec (.subscriptionPush ten k.idx k.sub at_) s = .next t ∧ frame t ∧ t.objs = s.objs ∧
        t.spans.subs = [{ u with val := s.subValue u.ten u.idx u.sub, at_ := s.tbc, sent := true }]) ∧
    (s.mgr = true → s.getN (0x2C00 + p) 2 = 3 →
      (∀ (status : BitVec 8) (e : BEntry), s.queue = [e] → subActMatch k e = true → e.cue = none → e.bcast = false → status = 0#8 → isAddJob e = true →
        s.spans.mirrors.any (isMirrorOf k) = false →
        ∃ t, exec (.subRsp p k status at_) s = .next t ∧ frame t ∧ (t.tenant e.ten).subResult = 0 ∧
          t.spans.mirrors = s.spans.mirrors ++ [{ w := k.w.toNat, ten := k.ten.toNat, idx := k.idx.toNat, sub := k.sub.toNat, snooped := s.tbc }] ∧
          t.queue = [{ e with res := some { status := 0, payload := [] } }]) ∧
      (∀ (latch : BitVec 64) (val : List Byte) (m : Mirror), s.spans.mirrors = [m] → isMirrorOf k m = true →
        (∃ t, exec (.push p k latch val at_) s = .next t ∧ frame t ∧ t.spans.mirrors = [{ m with val := val, latch := latch.toNat, filled := true }]) ∧
        (∀ reason : BitVec 8, ∃ t, exec (.evict p k latch val reason at_) s = .next t ∧ frame t ∧ t.spans.mirrors = [] ∧
          t.getN 0x1221 3 = satAdd maxU32 (s.getN 0x1221 3) 1) ∧
        (∀ tag : BitVec 8, m.filled = false ∨ m.val ≠ val →
          ∃ t, exec (.snoopRsp p k tag false latch val at_) s = .next t ∧ frame t ∧
            t.spans.mirrors = [{ m with val := val, latch := latch.toNat, filled := true }] ∧ t.getN 0x1221 2 = satAdd maxU32 (s.getN 0x1221 2) 1) ∧
        (∀ tag : BitVec 8, ∃ t, exec (.snoopRsp p k tag true latch val at_) s = .next t ∧ frame t ∧ t.spans = s.spans ∧
          t.getN 0x1221 4 = satAdd maxU32 (s.getN 0x1221 4) 1) ∧
        (m.snooped + 10 * Config.ticksPerSec ≤ s.tbc →
          ∃ t, exec (.mirrorSnoopTimer at_) s = .next t ∧ frame t ∧ t.objs = s.objs ∧ t.spans.mirrors = [{ m with snooped := s.tbc }] ∧
            t.spans.tag = (s.spans.tag + 1) % 256)))

/-- A worker serves a relayed POLL and its agent's POLL by the strobe edges of R168; a tunnel's packets lead the virtual input's frame and
audio, lost ones are counted, and the frame they spoil once; a path that goes down leaves the virtual input without a signal. -/
def Obligations.RelayedFramesAndTunnelsAreServed : Prop :=
  ∀ (s : State), s.strobed = true → s.link.storm = false → s.straps.linkmode ≠ 3#2 →
    (∀ f : Frame, f.payload = [] → f.len = 0#16 → f.crc.toNat = crc32c (frameBody 0 f) → f.ten.toNat < 128 → f.mgr ≠ 0x3F#8 → f.wrk ≠ 0xFF#8 → s.queue = [] →
      ∃ t, exec (.relayedFrame 0 f) s = .next t ∧ t.link.resp = some { status := 0, echo := f.seq.toNat, payload := [], full := true } ∧
        t.sck = (s.sck + 112 + 255 + 72 + 12 + f.gap) % 2 ^ 48 ∧ t.getN 0x1102 1 = satAdd maxU32 (s.getN 0x1102 1) 1 ∧
        t.staging = s.staging ∧ t.mem = s.mem) ∧
    (∀ (ten : Fin 128) (seq : BitVec 4), s.queue = [] →
      ∃ t, exec (.agentFrame ten seq) s = .next t ∧ t.link.resp = some { status := 0, echo := seq.toNat, payload := [], full := true } ∧
        t.sck = (s.sck + 2 + 112 + 255 + 72 + 12) % 2 ^ 48 ∧ t.ev.lastOk = s.ev.lastOk ∧ t.staging = s.staging ∧ t.mem = s.mem) ∧
    (∀ (v : Fin 32) (at_ : Nat), at_ ≤ s.tbc → s.getN (0x2140 + v) 1 ≠ 0 → s.getBit (0x2140 + v) 7 3 = false →
      let i := 0x2140 + v.val
      (s.getN i 3 ≠ 2 →
        (∃ t, exec (.tunnelPacket v .lock at_) s = .next t ∧ t.getBit i 7 1 = false ∧ t.inputs = s.inputs ∧ t.mem = s.mem ∧ t.staging = s.staging) ∧
        (s.getBit i 7 1 = false → ∃ t, exec (.tunnelPacket v .loss at_) s = .next t ∧ t.getBit i 7 1 = true ∧ t.getN i 8 = 0 ∧
          (t.input (32 + v)).writer = none ∧ t.mem = s.mem ∧ t.staging = s.staging) ∧
        (∀ n, 0 < n → s.writable (32 + v) = true → (s.input (32 + v)).spoiled = false →
          ∃ t, exec (.tunnelPacket v (.lost n) at_) s = .next t ∧ t.getN i 0x11 = satAdd maxU32 (s.getN i 0x11) n ∧
            t.getN i 0x0E = satAdd maxU32 (s.getN i 0x0E) 1 ∧ (t.input (32 + v)).writer = none ∧ (t.input (32 + v)).spoiled = true ∧
            t.mem = s.mem ∧ t.staging = s.staging) ∧
        (∀ n, (s.input (32 + v)).spoiled = true →
          ∃ t, exec (.tunnelPacket v (.lost n) at_) s = .next t ∧ t.getN i 0x11 = satAdd maxU32 (s.getN i 0x11) n ∧ t.inputs = s.inputs ∧
            t.mem = s.mem ∧ t.staging = s.staging)) ∧
      (∃ t, exec (.tunnelPacket v .pathDown at_) s = .next t ∧ t.getBit i 7 3 = true ∧ t.getBit i 7 0 = false ∧ t.getN i 8 = 0 ∧
        (t.input (32 + v)).writer = none ∧ t.mem = s.mem ∧ t.staging = s.staging) ∧
      (s.getN i 3 ≠ 1 → s.getBit i 7 2 = false → ∀ (carried : BitVec 16) (samples : List Int), (s.feed (32 + v)).mutes = [] → s.feedDirect (32 + v) = false →
        (let l := (List.range 16).map (fun c => if bitAt (carried.toNat &&& (2 ^ s.getN i 6 - 1)) c then clip24 (samples.getD c 0) else 0)
        (∀ q, q < 8 → preamble l q = false) →
        ∃ t, exec (.tunnelPacket v (.audio carried samples 0#8) at_) s = .next t ∧
          t.feed (32 + v) = { s.feed (32 + v) with carried := carried.toNat &&& (2 ^ s.getN i 6 - 1), last := l } ∧ t.mem = s.mem ∧ t.staging = s.staging)))

/-! ### JTAG (chapter 17) -/

/-- A TCK edge moves the TAP controller; BYPASS is one bit between TDI and TDO, captured as 0; the update of the instruction register
takes the bits shifted; the boundary-scan cells take theirs; TRST_N selects Test-Logic-Reset and BYPASS. The rest of the
device is as before. -/
def Obligations.TheJtagPortFollowsItsTapController : Prop :=
  ∀ (tms tdi : Bool) (pins : List Bool) (s : State),
    let j := s.jtag
    let next := j.tap.next tms
    (s.jtagOn = true →
      ∃ t, exec (.jtagTckEdge tms tdi pins) s = .next t ∧ t.jtag.tap = next ∧ t = { s with jtag := t.jtag, seed := t.seed } ∧
        t.jtag.ir = (if next = .reset then 0xFF#8 else if next = .updateIr then irValue t.jtag.irShift else j.ir) ∧
        (j.tap = .captureIr → t.jtag.irShift.length = 8 ∧ t.jtag.irShift.drop 6 = [false, true]) ∧
        (j.tap = .shiftIr → t.jtag.irShift = scanShift tdi j.irShift) ∧
        (j.tap = .shiftDr → scanInstr j.ir = false → t.jtag.bypass = tdi ∧ (next = .shiftDr → t.jtag.tdo = some tdi)) ∧
        (j.tap = .captureDr → scanInstr j.ir = false → t.jtag.bypass = false) ∧
        (j.tap = .captureDr → scanInstr j.ir = true → t.jtag.shift.length = 516 ∧ ∀ b, b < 172 → t.jtag.shift.getD (3 * b) false = pins.getD b false) ∧
        (j.tap = .shiftDr → scanInstr j.ir = true → t.jtag.shift = scanShift tdi j.shift) ∧
        (next = .updateDr → t.jtag.cells = if scanInstr j.ir then t.jtag.shift else j.cells)) ∧
    exec .trstNAssert s = .next { s with jtag := { j with tap := .reset, ir := 0xFF#8, tdo := none } }

end
end

