-- ==== Sys2Proof/Laws/State.lean ====
section
/-! SUPPORT. One lemma per field of State and per named update of State: what the update leaves and what it writes, so that no
proof unfolds a record update. -/
namespace Sys2Proof.Machine

/-! ### State.setV -/
@[simp] theorem State.setV_straps (s : State) (idx sub : Nat) (v : Val) : (s.setV idx sub v).straps = s.straps := rfl
@[simp] theorem State.setV_power (s : State) (idx sub : Nat) (v : Val) : (s.setV idx sub v).power = s.power := rfl
@[simp] theorem State.setV_tbc (s : State) (idx sub : Nat) (v : Val) : (s.setV idx sub v).tbc = s.tbc := rfl
@[simp] theorem State.setV_sck (s : State) (idx sub : Nat) (v : Val) : (s.setV idx sub v).sck = s.sck := rfl
@[simp] theorem State.setV_objs (s : State) (idx sub : Nat) (v : Val) : (s.setV idx sub v).objs = tabSet (dfltVal s.mgr idx sub) s.objs (objKey idx sub) v := rfl
@[simp] theorem State.setV_link (s : State) (idx sub : Nat) (v : Val) : (s.setV idx sub v).link = s.link := rfl
@[simp] theorem State.setV_queue (s : State) (idx sub : Nat) (v : Val) : (s.setV idx sub v).queue = s.queue := rfl
@[simp] theorem State.setV_staging (s : State) (idx sub : Nat) (v : Val) : (s.setV idx sub v).staging = s.staging := rfl
@[simp] theorem State.setV_tenants (s : State) (idx sub : Nat) (v : Val) : (s.setV idx sub v).tenants = s.tenants := rfl
@[simp] theorem State.setV_ev (s : State) (idx sub : Nat) (v : Val) : (s.setV idx sub v).ev = s.ev := rfl
@[simp] theorem State.setV_bank (s : State) (idx sub : Nat) (v : Val) : (s.setV idx sub v).bank = s.bank := rfl
@[simp] theorem State.setV_xb (s : State) (idx sub : Nat) (v : Val) : (s.setV idx sub v).xb = s.xb := rfl
@[simp] theorem State.setV_dram (s : State) (idx sub : Nat) (v : Val) : (s.setV idx sub v).dram = s.dram := rfl
@[simp] theorem State.setV_refs (s : State) (idx sub : Nat) (v : Val) : (s.setV idx sub v).refs = s.refs := rfl
@[simp] theorem State.setV_inputs (s : State) (idx sub : Nat) (v : Val) : (s.setV idx sub v).inputs = s.inputs := rfl
@[simp] theorem State.setV_readers (s : State) (idx sub : Nat) (v : Val) : (s.setV idx sub v).readers = s.readers := rfl
@[simp] theorem State.setV_outputs (s : State) (idx sub : Nat) (v : Val) : (s.setV idx sub v).outputs = s.outputs := rfl
@[simp] theorem State.setV_audio (s : State) (idx sub : Nat) (v : Val) : (s.setV idx sub v).audio = s.audio := rfl
@[simp] theorem State.setV_lamps (s : State) (idx sub : Nat) (v : Val) : (s.setV idx sub v).lamps = s.lamps := rfl
@[simp] theorem State.setV_mtp (s : State) (idx sub : Nat) (v : Val) : (s.setV idx sub v).mtp = s.mtp := rfl
@[simp] theorem State.setV_kick (s : State) (idx sub : Nat) (v : Val) : (s.setV idx sub v).kick = s.kick := rfl
@[simp] theorem State.setV_whis (s : State) (idx sub : Nat) (v : Val) : (s.setV idx sub v).whis = s.whis := rfl
@[simp] theorem State.setV_spans (s : State) (idx sub : Nat) (v : Val) : (s.setV idx sub v).spans = s.spans := rfl
@[simp] theorem State.setV_cue (s : State) (idx sub : Nat) (v : Val) : (s.setV idx sub v).cue = s.cue := rfl
@[simp] theorem State.setV_jtag (s : State) (idx sub : Nat) (v : Val) : (s.setV idx sub v).jtag = s.jtag := rfl
@[simp] theorem State.setV_mem (s : State) (idx sub : Nat) (v : Val) : (s.setV idx sub v).mem = s.mem := rfl
@[simp] theorem State.setV_seed (s : State) (idx sub : Nat) (v : Val) : (s.setV idx sub v).seed = s.seed := rfl
@[simp] theorem State.setV_pending (s : State) (idx sub : Nat) (v : Val) : (s.setV idx sub v).pending = s.pending := rfl
@[simp] theorem State.setV_mgr (s : State) (idx sub : Nat) (v : Val) : (s.setV idx sub v).mgr = s.mgr := rfl

/-! ### State.setN -/
@[simp] theorem State.setN_straps (s : State) (idx sub v : Nat) : (s.setN idx sub v).straps = s.straps := rfl
@[simp] theorem State.setN_power (s : State) (idx sub v : Nat) : (s.setN idx sub v).power = s.power := rfl
@[simp] theorem State.setN_tbc (s : State) (idx sub v : Nat) : (s.setN idx sub v).tbc = s.tbc := rfl
@[simp] theorem State.setN_sck (s : State) (idx sub v : Nat) : (s.setN idx sub v).sck = s.sck := rfl
@[simp] theorem State.setN_objs (s : State) (idx sub v : Nat) : (s.setN idx sub v).objs = tabSet (dfltVal s.mgr idx sub) s.objs (objKey idx sub) (.num v) := rfl
@[simp] theorem State.setN_link (s : State) (idx sub v : Nat) : (s.setN idx sub v).link = s.link := rfl
@[simp] theorem State.setN_queue (s : State) (idx sub v : Nat) : (s.setN idx sub v).queue = s.queue := rfl
@[simp] theorem State.setN_staging (s : State) (idx sub v : Nat) : (s.setN idx sub v).staging = s.staging := rfl
@[simp] theorem State.setN_tenants (s : State) (idx sub v : Nat) : (s.setN idx sub v).tenants = s.tenants := rfl
@[simp] theorem State.setN_ev (s : State) (idx sub v : Nat) : (s.setN idx sub v).ev = s.ev := rfl
@[simp] theorem State.setN_bank (s : State) (idx sub v : Nat) : (s.setN idx sub v).bank = s.bank := rfl
@[simp] theorem State.setN_xb (s : State) (idx sub v : Nat) : (s.setN idx sub v).xb = s.xb := rfl
@[simp] theorem State.setN_dram (s : State) (idx sub v : Nat) : (s.setN idx sub v).dram = s.dram := rfl
@[simp] theorem State.setN_refs (s : State) (idx sub v : Nat) : (s.setN idx sub v).refs = s.refs := rfl
@[simp] theorem State.setN_inputs (s : State) (idx sub v : Nat) : (s.setN idx sub v).inputs = s.inputs := rfl
@[simp] theorem State.setN_readers (s : State) (idx sub v : Nat) : (s.setN idx sub v).readers = s.readers := rfl
@[simp] theorem State.setN_outputs (s : State) (idx sub v : Nat) : (s.setN idx sub v).outputs = s.outputs := rfl
@[simp] theorem State.setN_audio (s : State) (idx sub v : Nat) : (s.setN idx sub v).audio = s.audio := rfl
@[simp] theorem State.setN_lamps (s : State) (idx sub v : Nat) : (s.setN idx sub v).lamps = s.lamps := rfl
@[simp] theorem State.setN_mtp (s : State) (idx sub v : Nat) : (s.setN idx sub v).mtp = s.mtp := rfl
@[simp] theorem State.setN_kick (s : State) (idx sub v : Nat) : (s.setN idx sub v).kick = s.kick := rfl
@[simp] theorem State.setN_whis (s : State) (idx sub v : Nat) : (s.setN idx sub v).whis = s.whis := rfl
@[simp] theorem State.setN_spans (s : State) (idx sub v : Nat) : (s.setN idx sub v).spans = s.spans := rfl
@[simp] theorem State.setN_cue (s : State) (idx sub v : Nat) : (s.setN idx sub v).cue = s.cue := rfl
@[simp] theorem State.setN_jtag (s : State) (idx sub v : Nat) : (s.setN idx sub v).jtag = s.jtag := rfl
@[simp] theorem State.setN_mem (s : State) (idx sub v : Nat) : (s.setN idx sub v).mem = s.mem := rfl
@[simp] theorem State.setN_seed (s : State) (idx sub v : Nat) : (s.setN idx sub v).seed = s.seed := rfl
@[simp] theorem State.setN_pending (s : State) (idx sub v : Nat) : (s.setN idx sub v).pending = s.pending := rfl
@[simp] theorem State.setN_mgr (s : State) (idx sub v : Nat) : (s.setN idx sub v).mgr = s.mgr := rfl

/-! ### State.setB -/
@[simp] theorem State.setB_straps (s : State) (idx sub : Nat) (v : List Byte) : (s.setB idx sub v).straps = s.straps := rfl
@[simp] theorem State.setB_power (s : State) (idx sub : Nat) (v : List Byte) : (s.setB idx sub v).power = s.power := rfl
@[simp] theorem State.setB_tbc (s : State) (idx sub : Nat) (v : List Byte) : (s.setB idx sub v).tbc = s.tbc := rfl
@[simp] theorem State.setB_sck (s : State) (idx sub : Nat) (v : List Byte) : (s.setB idx sub v).sck = s.sck := rfl
@[simp] theorem State.setB_objs (s : State) (idx sub : Nat) (v : List Byte) : (s.setB idx sub v).objs = tabSet (dfltVal s.mgr idx sub) s.objs (objKey idx sub) (.bytes v) := rfl
@[simp] theorem State.setB_link (s : State) (idx sub : Nat) (v : List Byte) : (s.setB idx sub v).link = s.link := rfl
@[simp] theorem State.setB_queue (s : State) (idx sub : Nat) (v : List Byte) : (s.setB idx sub v).queue = s.queue := rfl
@[simp] theorem State.setB_staging (s : State) (idx sub : Nat) (v : List Byte) : (s.setB idx sub v).staging = s.staging := rfl
@[simp] theorem State.setB_tenants (s : State) (idx sub : Nat) (v : List Byte) : (s.setB idx sub v).tenants = s.tenants := rfl
@[simp] theorem State.setB_ev (s : State) (idx sub : Nat) (v : List Byte) : (s.setB idx sub v).ev = s.ev := rfl
@[simp] theorem State.setB_bank (s : State) (idx sub : Nat) (v : List Byte) : (s.setB idx sub v).bank = s.bank := rfl
@[simp] theorem State.setB_xb (s : State) (idx sub : Nat) (v : List Byte) : (s.setB idx sub v).xb = s.xb := rfl
@[simp] theorem State.setB_dram (s : State) (idx sub : Nat) (v : List Byte) : (s.setB idx sub v).dram = s.dram := rfl
@[simp] theorem State.setB_refs (s : State) (idx sub : Nat) (v : List Byte) : (s.setB idx sub v).refs = s.refs := rfl
@[simp] theorem State.setB_inputs (s : State) (idx sub : Nat) (v : List Byte) : (s.setB idx sub v).inputs = s.inputs := rfl
@[simp] theorem State.setB_readers (s : State) (idx sub : Nat) (v : List Byte) : (s.setB idx sub v).readers = s.readers := rfl
@[simp] theorem State.setB_outputs (s : State) (idx sub : Nat) (v : List Byte) : (s.setB idx sub v).outputs = s.outputs := rfl
@[simp] theorem State.setB_audio (s : State) (idx sub : Nat) (v : List Byte) : (s.setB idx sub v).audio = s.audio := rfl
@[simp] theorem State.setB_lamps (s : State) (idx sub : Nat) (v : List Byte) : (s.setB idx sub v).lamps = s.lamps := rfl
@[simp] theorem State.setB_mtp (s : State) (idx sub : Nat) (v : List Byte) : (s.setB idx sub v).mtp = s.mtp := rfl
@[simp] theorem State.setB_kick (s : State) (idx sub : Nat) (v : List Byte) : (s.setB idx sub v).kick = s.kick := rfl
@[simp] theorem State.setB_whis (s : State) (idx sub : Nat) (v : List Byte) : (s.setB idx sub v).whis = s.whis := rfl
@[simp] theorem State.setB_spans (s : State) (idx sub : Nat) (v : List Byte) : (s.setB idx sub v).spans = s.spans := rfl
@[simp] theorem State.setB_cue (s : State) (idx sub : Nat) (v : List Byte) : (s.setB idx sub v).cue = s.cue := rfl
@[simp] theorem State.setB_jtag (s : State) (idx sub : Nat) (v : List Byte) : (s.setB idx sub v).jtag = s.jtag := rfl
@[simp] theorem State.setB_mem (s : State) (idx sub : Nat) (v : List Byte) : (s.setB idx sub v).mem = s.mem := rfl
@[simp] theorem State.setB_seed (s : State) (idx sub : Nat) (v : List Byte) : (s.setB idx sub v).seed = s.seed := rfl
@[simp] theorem State.setB_pending (s : State) (idx sub : Nat) (v : List Byte) : (s.setB idx sub v).pending = s.pending := rfl
@[simp] theorem State.setB_mgr (s : State) (idx sub : Nat) (v : List Byte) : (s.setB idx sub v).mgr = s.mgr := rfl

/-! ### State.setTenant -/
@[simp] theorem State.setTenant_straps (s : State) (t : Nat) (x : Tenant) : (s.setTenant t x).straps = s.straps := rfl
@[simp] theorem State.setTenant_power (s : State) (t : Nat) (x : Tenant) : (s.setTenant t x).power = s.power := rfl
@[simp] theorem State.setTenant_tbc (s : State) (t : Nat) (x : Tenant) : (s.setTenant t x).tbc = s.tbc := rfl
@[simp] theorem State.setTenant_sck (s : State) (t : Nat) (x : Tenant) : (s.setTenant t x).sck = s.sck := rfl
@[simp] theorem State.setTenant_objs (s : State) (t : Nat) (x : Tenant) : (s.setTenant t x).objs = s.objs := rfl
@[simp] theorem State.setTenant_link (s : State) (t : Nat) (x : Tenant) : (s.setTenant t x).link = s.link := rfl
@[simp] theorem State.setTenant_queue (s : State) (t : Nat) (x : Tenant) : (s.setTenant t x).queue = s.queue := rfl
@[simp] theorem State.setTenant_staging (s : State) (t : Nat) (x : Tenant) : (s.setTenant t x).staging = s.staging := rfl
@[simp] theorem State.setTenant_tenants (s : State) (t : Nat) (x : Tenant) : (s.setTenant t x).tenants = tabSet {} s.tenants t x := rfl
@[simp] theorem State.setTenant_ev (s : State) (t : Nat) (x : Tenant) : (s.setTenant t x).ev = s.ev := rfl
@[simp] theorem State.setTenant_bank (s : State) (t : Nat) (x : Tenant) : (s.setTenant t x).bank = s.bank := rfl
@[simp] theorem State.setTenant_xb (s : State) (t : Nat) (x : Tenant) : (s.setTenant t x).xb = s.xb := rfl
@[simp] theorem State.setTenant_dram (s : State) (t : Nat) (x : Tenant) : (s.setTenant t x).dram = s.dram := rfl
@[simp] theorem State.setTenant_refs (s : State) (t : Nat) (x : Tenant) : (s.setTenant t x).refs = s.refs := rfl
@[simp] theorem State.setTenant_inputs (s : State) (t : Nat) (x : Tenant) : (s.setTenant t x).inputs = s.inputs := rfl
@[simp] theorem State.setTenant_readers (s : State) (t : Nat) (x : Tenant) : (s.setTenant t x).readers = s.readers := rfl
@[simp] theorem State.setTenant_outputs (s : State) (t : Nat) (x : Tenant) : (s.setTenant t x).outputs = s.outputs := rfl
@[simp] theorem State.setTenant_audio (s : State) (t : Nat) (x : Tenant) : (s.setTenant t x).audio = s.audio := rfl
@[simp] theorem State.setTenant_lamps (s : State) (t : Nat) (x : Tenant) : (s.setTenant t x).lamps = s.lamps := rfl
@[simp] theorem State.setTenant_mtp (s : State) (t : Nat) (x : Tenant) : (s.setTenant t x).mtp = s.mtp := rfl
@[simp] theorem State.setTenant_kick (s : State) (t : Nat) (x : Tenant) : (s.setTenant t x).kick = s.kick := rfl
@[simp] theorem State.setTenant_whis (s : State) (t : Nat) (x : Tenant) : (s.setTenant t x).whis = s.whis := rfl
@[simp] theorem State.setTenant_spans (s : State) (t : Nat) (x : Tenant) : (s.setTenant t x).spans = s.spans := rfl
@[simp] theorem State.setTenant_cue (s : State) (t : Nat) (x : Tenant) : (s.setTenant t x).cue = s.cue := rfl
@[simp] theorem State.setTenant_jtag (s : State) (t : Nat) (x : Tenant) : (s.setTenant t x).jtag = s.jtag := rfl
@[simp] theorem State.setTenant_mem (s : State) (t : Nat) (x : Tenant) : (s.setTenant t x).mem = s.mem := rfl
@[simp] theorem State.setTenant_seed (s : State) (t : Nat) (x : Tenant) : (s.setTenant t x).seed = s.seed := rfl
@[simp] theorem State.setTenant_pending (s : State) (t : Nat) (x : Tenant) : (s.setTenant t x).pending = s.pending := rfl

/-! ### State.setLogSt -/
@[simp] theorem State.setLogSt_straps (s : State) (l : Nat) (x : LogSt) : (s.setLogSt l x).straps = s.straps := rfl
@[simp] theorem State.setLogSt_power (s : State) (l : Nat) (x : LogSt) : (s.setLogSt l x).power = s.power := rfl
@[simp] theorem State.setLogSt_tbc (s : State) (l : Nat) (x : LogSt) : (s.setLogSt l x).tbc = s.tbc := rfl
@[simp] theorem State.setLogSt_sck (s : State) (l : Nat) (x : LogSt) : (s.setLogSt l x).sck = s.sck := rfl
@[simp] theorem State.setLogSt_objs (s : State) (l : Nat) (x : LogSt) : (s.setLogSt l x).objs = s.objs := rfl
@[simp] theorem State.setLogSt_link (s : State) (l : Nat) (x : LogSt) : (s.setLogSt l x).link = s.link := rfl
@[simp] theorem State.setLogSt_queue (s : State) (l : Nat) (x : LogSt) : (s.setLogSt l x).queue = s.queue := rfl
@[simp] theorem State.setLogSt_staging (s : State) (l : Nat) (x : LogSt) : (s.setLogSt l x).staging = s.staging := rfl
@[simp] theorem State.setLogSt_tenants (s : State) (l : Nat) (x : LogSt) : (s.setLogSt l x).tenants = s.tenants := rfl
@[simp] theorem State.setLogSt_ev (s : State) (l : Nat) (x : LogSt) : (s.setLogSt l x).ev = { s.ev with logs := tabSet {} s.ev.logs l x } := rfl
@[simp] theorem State.setLogSt_bank (s : State) (l : Nat) (x : LogSt) : (s.setLogSt l x).bank = s.bank := rfl
@[simp] theorem State.setLogSt_xb (s : State) (l : Nat) (x : LogSt) : (s.setLogSt l x).xb = s.xb := rfl
@[simp] theorem State.setLogSt_dram (s : State) (l : Nat) (x : LogSt) : (s.setLogSt l x).dram = s.dram := rfl
@[simp] theorem State.setLogSt_refs (s : State) (l : Nat) (x : LogSt) : (s.setLogSt l x).refs = s.refs := rfl
@[simp] theorem State.setLogSt_inputs (s : State) (l : Nat) (x : LogSt) : (s.setLogSt l x).inputs = s.inputs := rfl
@[simp] theorem State.setLogSt_readers (s : State) (l : Nat) (x : LogSt) : (s.setLogSt l x).readers = s.readers := rfl
@[simp] theorem State.setLogSt_outputs (s : State) (l : Nat) (x : LogSt) : (s.setLogSt l x).outputs = s.outputs := rfl
@[simp] theorem State.setLogSt_audio (s : State) (l : Nat) (x : LogSt) : (s.setLogSt l x).audio = s.audio := rfl
@[simp] theorem State.setLogSt_lamps (s : State) (l : Nat) (x : LogSt) : (s.setLogSt l x).lamps = s.lamps := rfl
@[simp] theorem State.setLogSt_mtp (s : State) (l : Nat) (x : LogSt) : (s.setLogSt l x).mtp = s.mtp := rfl
@[simp] theorem State.setLogSt_kick (s : State) (l : Nat) (x : LogSt) : (s.setLogSt l x).kick = s.kick := rfl
@[simp] theorem State.setLogSt_whis (s : State) (l : Nat) (x : LogSt) : (s.setLogSt l x).whis = s.whis := rfl
@[simp] theorem State.setLogSt_spans (s : State) (l : Nat) (x : LogSt) : (s.setLogSt l x).spans = s.spans := rfl
@[simp] theorem State.setLogSt_cue (s : State) (l : Nat) (x : LogSt) : (s.setLogSt l x).cue = s.cue := rfl
@[simp] theorem State.setLogSt_jtag (s : State) (l : Nat) (x : LogSt) : (s.setLogSt l x).jtag = s.jtag := rfl
@[simp] theorem State.setLogSt_mem (s : State) (l : Nat) (x : LogSt) : (s.setLogSt l x).mem = s.mem := rfl
@[simp] theorem State.setLogSt_seed (s : State) (l : Nat) (x : LogSt) : (s.setLogSt l x).seed = s.seed := rfl
@[simp] theorem State.setLogSt_pending (s : State) (l : Nat) (x : LogSt) : (s.setLogSt l x).pending = s.pending := rfl

/-! ### State.setSector -/
@[simp] theorem State.setSector_straps (s : State) (k : Nat) (x : Sector) : (s.setSector k x).straps = s.straps := rfl
@[simp] theorem State.setSector_power (s : State) (k : Nat) (x : Sector) : (s.setSector k x).power = s.power := rfl
@[simp] theorem State.setSector_tbc (s : State) (k : Nat) (x : Sector) : (s.setSector k x).tbc = s.tbc := rfl
@[simp] theorem State.setSector_sck (s : State) (k : Nat) (x : Sector) : (s.setSector k x).sck = s.sck := rfl
@[simp] theorem State.setSector_objs (s : State) (k : Nat) (x : Sector) : (s.setSector k x).objs = s.objs := rfl
@[simp] theorem State.setSector_link (s : State) (k : Nat) (x : Sector) : (s.setSector k x).link = s.link := rfl
@[simp] theorem State.setSector_queue (s : State) (k : Nat) (x : Sector) : (s.setSector k x).queue = s.queue := rfl
@[simp] theorem State.setSector_staging (s : State) (k : Nat) (x : Sector) : (s.setSector k x).staging = s.staging := rfl
@[simp] theorem State.setSector_tenants (s : State) (k : Nat) (x : Sector) : (s.setSector k x).tenants = s.tenants := rfl
@[simp] theorem State.setSector_ev (s : State) (k : Nat) (x : Sector) : (s.setSector k x).ev = s.ev := rfl
@[simp] theorem State.setSector_bank (s : State) (k : Nat) (x : Sector) : (s.setSector k x).bank = s.bank := rfl
@[simp] theorem State.setSector_xb (s : State) (k : Nat) (x : Sector) : (s.setSector k x).xb = s.xb := rfl
@[simp] theorem State.setSector_dram (s : State) (k : Nat) (x : Sector) : (s.setSector k x).dram = s.dram := rfl
@[simp] theorem State.setSector_refs (s : State) (k : Nat) (x : Sector) : (s.setSector k x).refs = s.refs := rfl
@[simp] theorem State.setSector_inputs (s : State) (k : Nat) (x : Sector) : (s.setSector k x).inputs = s.inputs := rfl
@[simp] theorem State.setSector_readers (s : State) (k : Nat) (x : Sector) : (s.setSector k x).readers = s.readers := rfl
@[simp] theorem State.setSector_outputs (s : State) (k : Nat) (x : Sector) : (s.setSector k x).outputs = s.outputs := rfl
@[simp] theorem State.setSector_audio (s : State) (k : Nat) (x : Sector) : (s.setSector k x).audio = s.audio := rfl
@[simp] theorem State.setSector_lamps (s : State) (k : Nat) (x : Sector) : (s.setSector k x).lamps = s.lamps := rfl
@[simp] theorem State.setSector_mtp (s : State) (k : Nat) (x : Sector) : (s.setSector k x).mtp = { s.mtp with sectors := tabSet {} s.mtp.sectors k x } := rfl
@[simp] theorem State.setSector_kick (s : State) (k : Nat) (x : Sector) : (s.setSector k x).kick = s.kick := rfl
@[simp] theorem State.setSector_whis (s : State) (k : Nat) (x : Sector) : (s.setSector k x).whis = s.whis := rfl
@[simp] theorem State.setSector_spans (s : State) (k : Nat) (x : Sector) : (s.setSector k x).spans = s.spans := rfl
@[simp] theorem State.setSector_cue (s : State) (k : Nat) (x : Sector) : (s.setSector k x).cue = s.cue := rfl
@[simp] theorem State.setSector_jtag (s : State) (k : Nat) (x : Sector) : (s.setSector k x).jtag = s.jtag := rfl
@[simp] theorem State.setSector_mem (s : State) (k : Nat) (x : Sector) : (s.setSector k x).mem = s.mem := rfl
@[simp] theorem State.setSector_seed (s : State) (k : Nat) (x : Sector) : (s.setSector k x).seed = s.seed := rfl
@[simp] theorem State.setSector_pending (s : State) (k : Nat) (x : Sector) : (s.setSector k x).pending = s.pending := rfl

/-! ### State.setCtx -/
@[simp] theorem State.setCtx_straps (s : State) (x : Nat) (c : Ctx) : (s.setCtx x c).straps = s.straps := rfl
@[simp] theorem State.setCtx_power (s : State) (x : Nat) (c : Ctx) : (s.setCtx x c).power = s.power := rfl
@[simp] theorem State.setCtx_tbc (s : State) (x : Nat) (c : Ctx) : (s.setCtx x c).tbc = s.tbc := rfl
@[simp] theorem State.setCtx_sck (s : State) (x : Nat) (c : Ctx) : (s.setCtx x c).sck = s.sck := rfl
@[simp] theorem State.setCtx_objs (s : State) (x : Nat) (c : Ctx) : (s.setCtx x c).objs = s.objs := rfl
@[simp] theorem State.setCtx_link (s : State) (x : Nat) (c : Ctx) : (s.setCtx x c).link = s.link := rfl
@[simp] theorem State.setCtx_queue (s : State) (x : Nat) (c : Ctx) : (s.setCtx x c).queue = s.queue := rfl
@[simp] theorem State.setCtx_staging (s : State) (x : Nat) (c : Ctx) : (s.setCtx x c).staging = s.staging := rfl
@[simp] theorem State.setCtx_tenants (s : State) (x : Nat) (c : Ctx) : (s.setCtx x c).tenants = s.tenants := rfl
@[simp] theorem State.setCtx_ev (s : State) (x : Nat) (c : Ctx) : (s.setCtx x c).ev = s.ev := rfl
@[simp] theorem State.setCtx_bank (s : State) (x : Nat) (c : Ctx) : (s.setCtx x c).bank = s.bank := rfl
@[simp] theorem State.setCtx_xb (s : State) (x : Nat) (c : Ctx) : (s.setCtx x c).xb = s.xb := rfl
@[simp] theorem State.setCtx_dram (s : State) (x : Nat) (c : Ctx) : (s.setCtx x c).dram = s.dram := rfl
@[simp] theorem State.setCtx_refs (s : State) (x : Nat) (c : Ctx) : (s.setCtx x c).refs = s.refs := rfl
@[simp] theorem State.setCtx_inputs (s : State) (x : Nat) (c : Ctx) : (s.setCtx x c).inputs = s.inputs := rfl
@[simp] theorem State.setCtx_readers (s : State) (x : Nat) (c : Ctx) : (s.setCtx x c).readers = s.readers := rfl
@[simp] theorem State.setCtx_outputs (s : State) (x : Nat) (c : Ctx) : (s.setCtx x c).outputs = s.outputs := rfl
@[simp] theorem State.setCtx_audio (s : State) (x : Nat) (c : Ctx) : (s.setCtx x c).audio = s.audio := rfl
@[simp] theorem State.setCtx_lamps (s : State) (x : Nat) (c : Ctx) : (s.setCtx x c).lamps = s.lamps := rfl
@[simp] theorem State.setCtx_mtp (s : State) (x : Nat) (c : Ctx) : (s.setCtx x c).mtp = s.mtp := rfl
@[simp] theorem State.setCtx_kick (s : State) (x : Nat) (c : Ctx) : (s.setCtx x c).kick = s.kick := rfl
@[simp] theorem State.setCtx_whis (s : State) (x : Nat) (c : Ctx) : (s.setCtx x c).whis = s.whis := rfl
@[simp] theorem State.setCtx_spans (s : State) (x : Nat) (c : Ctx) : (s.setCtx x c).spans = s.spans := rfl
@[simp] theorem State.setCtx_cue (s : State) (x : Nat) (c : Ctx) : (s.setCtx x c).cue = { s.cue with ctx := tabSet {} s.cue.ctx x c } := rfl
@[simp] theorem State.setCtx_jtag (s : State) (x : Nat) (c : Ctx) : (s.setCtx x c).jtag = s.jtag := rfl
@[simp] theorem State.setCtx_mem (s : State) (x : Nat) (c : Ctx) : (s.setCtx x c).mem = s.mem := rfl
@[simp] theorem State.setCtx_seed (s : State) (x : Nat) (c : Ctx) : (s.setCtx x c).seed = s.seed := rfl
@[simp] theorem State.setCtx_pending (s : State) (x : Nat) (c : Ctx) : (s.setCtx x c).pending = s.pending := rfl

/-! ### State.setPort -/
@[simp] theorem State.setPort_straps (s : State) (p : Nat) (x : Port) : (s.setPort p x).straps = s.straps := rfl
@[simp] theorem State.setPort_power (s : State) (p : Nat) (x : Port) : (s.setPort p x).power = s.power := rfl
@[simp] theorem State.setPort_tbc (s : State) (p : Nat) (x : Port) : (s.setPort p x).tbc = s.tbc := rfl
@[simp] theorem State.setPort_sck (s : State) (p : Nat) (x : Port) : (s.setPort p x).sck = s.sck := rfl
@[simp] theorem State.setPort_objs (s : State) (p : Nat) (x : Port) : (s.setPort p x).objs = s.objs := rfl
@[simp] theorem State.setPort_link (s : State) (p : Nat) (x : Port) : (s.setPort p x).link = s.link := rfl
@[simp] theorem State.setPort_queue (s : State) (p : Nat) (x : Port) : (s.setPort p x).queue = s.queue := rfl
@[simp] theorem State.setPort_staging (s : State) (p : Nat) (x : Port) : (s.setPort p x).staging = s.staging := rfl
@[simp] theorem State.setPort_tenants (s : State) (p : Nat) (x : Port) : (s.setPort p x).tenants = s.tenants := rfl
@[simp] theorem State.setPort_ev (s : State) (p : Nat) (x : Port) : (s.setPort p x).ev = s.ev := rfl
@[simp] theorem State.setPort_bank (s : State) (p : Nat) (x : Port) : (s.setPort p x).bank = s.bank := rfl
@[simp] theorem State.setPort_xb (s : State) (p : Nat) (x : Port) : (s.setPort p x).xb = s.xb := rfl
@[simp] theorem State.setPort_dram (s : State) (p : Nat) (x : Port) : (s.setPort p x).dram = s.dram := rfl
@[simp] theorem State.setPort_refs (s : State) (p : Nat) (x : Port) : (s.setPort p x).refs = s.refs := rfl
@[simp] theorem State.setPort_inputs (s : State) (p : Nat) (x : Port) : (s.setPort p x).inputs = s.inputs := rfl
@[simp] theorem State.setPort_readers (s : State) (p : Nat) (x : Port) : (s.setPort p x).readers = s.readers := rfl
@[simp] theorem State.setPort_outputs (s : State) (p : Nat) (x : Port) : (s.setPort p x).outputs = s.outputs := rfl
@[simp] theorem State.setPort_audio (s : State) (p : Nat) (x : Port) : (s.setPort p x).audio = s.audio := rfl
@[simp] theorem State.setPort_lamps (s : State) (p : Nat) (x : Port) : (s.setPort p x).lamps = s.lamps := rfl
@[simp] theorem State.setPort_mtp (s : State) (p : Nat) (x : Port) : (s.setPort p x).mtp = s.mtp := rfl
@[simp] theorem State.setPort_kick (s : State) (p : Nat) (x : Port) : (s.setPort p x).kick = s.kick := rfl
@[simp] theorem State.setPort_whis (s : State) (p : Nat) (x : Port) : (s.setPort p x).whis = s.whis := rfl
@[simp] theorem State.setPort_spans (s : State) (p : Nat) (x : Port) : (s.setPort p x).spans = { s.spans with ports := tabSet {} s.spans.ports p x } := rfl
@[simp] theorem State.setPort_cue (s : State) (p : Nat) (x : Port) : (s.setPort p x).cue = s.cue := rfl
@[simp] theorem State.setPort_jtag (s : State) (p : Nat) (x : Port) : (s.setPort p x).jtag = s.jtag := rfl
@[simp] theorem State.setPort_mem (s : State) (p : Nat) (x : Port) : (s.setPort p x).mem = s.mem := rfl
@[simp] theorem State.setPort_seed (s : State) (p : Nat) (x : Port) : (s.setPort p x).seed = s.seed := rfl
@[simp] theorem State.setPort_pending (s : State) (p : Nat) (x : Port) : (s.setPort p x).pending = s.pending := rfl

/-! ### State.setCand -/
@[simp] theorem State.setCand_straps (s : State) (k : Nat) (c : Cand) : (s.setCand k c).straps = s.straps := rfl
@[simp] theorem State.setCand_power (s : State) (k : Nat) (c : Cand) : (s.setCand k c).power = s.power := rfl
@[simp] theorem State.setCand_tbc (s : State) (k : Nat) (c : Cand) : (s.setCand k c).tbc = s.tbc := rfl
@[simp] theorem State.setCand_sck (s : State) (k : Nat) (c : Cand) : (s.setCand k c).sck = s.sck := rfl
@[simp] theorem State.setCand_objs (s : State) (k : Nat) (c : Cand) : (s.setCand k c).objs = s.objs := rfl
@[simp] theorem State.setCand_link (s : State) (k : Nat) (c : Cand) : (s.setCand k c).link = s.link := rfl
@[simp] theorem State.setCand_queue (s : State) (k : Nat) (c : Cand) : (s.setCand k c).queue = s.queue := rfl
@[simp] theorem State.setCand_staging (s : State) (k : Nat) (c : Cand) : (s.setCand k c).staging = s.staging := rfl
@[simp] theorem State.setCand_tenants (s : State) (k : Nat) (c : Cand) : (s.setCand k c).tenants = s.tenants := rfl
@[simp] theorem State.setCand_ev (s : State) (k : Nat) (c : Cand) : (s.setCand k c).ev = s.ev := rfl
@[simp] theorem State.setCand_bank (s : State) (k : Nat) (c : Cand) : (s.setCand k c).bank = s.bank := rfl
@[simp] theorem State.setCand_xb (s : State) (k : Nat) (c : Cand) : (s.setCand k c).xb = s.xb := rfl
@[simp] theorem State.setCand_dram (s : State) (k : Nat) (c : Cand) : (s.setCand k c).dram = s.dram := rfl
@[simp] theorem State.setCand_refs (s : State) (k : Nat) (c : Cand) : (s.setCand k c).refs = { s.refs with cands := tabSet {} s.refs.cands k c } := rfl
@[simp] theorem State.setCand_inputs (s : State) (k : Nat) (c : Cand) : (s.setCand k c).inputs = s.inputs := rfl
@[simp] theorem State.setCand_readers (s : State) (k : Nat) (c : Cand) : (s.setCand k c).readers = s.readers := rfl
@[simp] theorem State.setCand_outputs (s : State) (k : Nat) (c : Cand) : (s.setCand k c).outputs = s.outputs := rfl
@[simp] theorem State.setCand_audio (s : State) (k : Nat) (c : Cand) : (s.setCand k c).audio = s.audio := rfl
@[simp] theorem State.setCand_lamps (s : State) (k : Nat) (c : Cand) : (s.setCand k c).lamps = s.lamps := rfl
@[simp] theorem State.setCand_mtp (s : State) (k : Nat) (c : Cand) : (s.setCand k c).mtp = s.mtp := rfl
@[simp] theorem State.setCand_kick (s : State) (k : Nat) (c : Cand) : (s.setCand k c).kick = s.kick := rfl
@[simp] theorem State.setCand_whis (s : State) (k : Nat) (c : Cand) : (s.setCand k c).whis = s.whis := rfl
@[simp] theorem State.setCand_spans (s : State) (k : Nat) (c : Cand) : (s.setCand k c).spans = s.spans := rfl
@[simp] theorem State.setCand_cue (s : State) (k : Nat) (c : Cand) : (s.setCand k c).cue = s.cue := rfl
@[simp] theorem State.setCand_jtag (s : State) (k : Nat) (c : Cand) : (s.setCand k c).jtag = s.jtag := rfl
@[simp] theorem State.setCand_mem (s : State) (k : Nat) (c : Cand) : (s.setCand k c).mem = s.mem := rfl
@[simp] theorem State.setCand_seed (s : State) (k : Nat) (c : Cand) : (s.setCand k c).seed = s.seed := rfl
@[simp] theorem State.setCand_pending (s : State) (k : Nat) (c : Cand) : (s.setCand k c).pending = s.pending := rfl

/-! ### State.setPhys -/
@[simp] theorem State.setPhys_straps (s : State) (p : Nat) (b : Bank) : (s.setPhys p b).straps = s.straps := rfl
@[simp] theorem State.setPhys_power (s : State) (p : Nat) (b : Bank) : (s.setPhys p b).power = s.power := rfl
@[simp] theorem State.setPhys_tbc (s : State) (p : Nat) (b : Bank) : (s.setPhys p b).tbc = s.tbc := rfl
@[simp] theorem State.setPhys_sck (s : State) (p : Nat) (b : Bank) : (s.setPhys p b).sck = s.sck := rfl
@[simp] theorem State.setPhys_objs (s : State) (p : Nat) (b : Bank) : (s.setPhys p b).objs = s.objs := rfl
@[simp] theorem State.setPhys_link (s : State) (p : Nat) (b : Bank) : (s.setPhys p b).link = s.link := rfl
@[simp] theorem State.setPhys_queue (s : State) (p : Nat) (b : Bank) : (s.setPhys p b).queue = s.queue := rfl
@[simp] theorem State.setPhys_staging (s : State) (p : Nat) (b : Bank) : (s.setPhys p b).staging = s.staging := rfl
@[simp] theorem State.setPhys_tenants (s : State) (p : Nat) (b : Bank) : (s.setPhys p b).tenants = s.tenants := rfl
@[simp] theorem State.setPhys_ev (s : State) (p : Nat) (b : Bank) : (s.setPhys p b).ev = s.ev := rfl
@[simp] theorem State.setPhys_bank (s : State) (p : Nat) (b : Bank) : (s.setPhys p b).bank = { s.bank with phys := tabSet {} s.bank.phys p b } := rfl
@[simp] theorem State.setPhys_xb (s : State) (p : Nat) (b : Bank) : (s.setPhys p b).xb = s.xb := rfl
@[simp] theorem State.setPhys_dram (s : State) (p : Nat) (b : Bank) : (s.setPhys p b).dram = s.dram := rfl
@[simp] theorem State.setPhys_refs (s : State) (p : Nat) (b : Bank) : (s.setPhys p b).refs = s.refs := rfl
@[simp] theorem State.setPhys_inputs (s : State) (p : Nat) (b : Bank) : (s.setPhys p b).inputs = s.inputs := rfl
@[simp] theorem State.setPhys_readers (s : State) (p : Nat) (b : Bank) : (s.setPhys p b).readers = s.readers := rfl
@[simp] theorem State.setPhys_outputs (s : State) (p : Nat) (b : Bank) : (s.setPhys p b).outputs = s.outputs := rfl
@[simp] theorem State.setPhys_audio (s : State) (p : Nat) (b : Bank) : (s.setPhys p b).audio = s.audio := rfl
@[simp] theorem State.setPhys_lamps (s : State) (p : Nat) (b : Bank) : (s.setPhys p b).lamps = s.lamps := rfl
@[simp] theorem State.setPhys_mtp (s : State) (p : Nat) (b : Bank) : (s.setPhys p b).mtp = s.mtp := rfl
@[simp] theorem State.setPhys_kick (s : State) (p : Nat) (b : Bank) : (s.setPhys p b).kick = s.kick := rfl
@[simp] theorem State.setPhys_whis (s : State) (p : Nat) (b : Bank) : (s.setPhys p b).whis = s.whis := rfl
@[simp] theorem State.setPhys_spans (s : State) (p : Nat) (b : Bank) : (s.setPhys p b).spans = s.spans := rfl
@[simp] theorem State.setPhys_cue (s : State) (p : Nat) (b : Bank) : (s.setPhys p b).cue = s.cue := rfl
@[simp] theorem State.setPhys_jtag (s : State) (p : Nat) (b : Bank) : (s.setPhys p b).jtag = s.jtag := rfl
@[simp] theorem State.setPhys_mem (s : State) (p : Nat) (b : Bank) : (s.setPhys p b).mem = s.mem := rfl
@[simp] theorem State.setPhys_seed (s : State) (p : Nat) (b : Bank) : (s.setPhys p b).seed = s.seed := rfl
@[simp] theorem State.setPhys_pending (s : State) (p : Nat) (b : Bank) : (s.setPhys p b).pending = s.pending := rfl

/-! ### State.setXResp -/
@[simp] theorem State.setXResp_straps (s : State) (m : Nat) (r : XResp) : (s.setXResp m r).straps = s.straps := rfl
@[simp] theorem State.setXResp_power (s : State) (m : Nat) (r : XResp) : (s.setXResp m r).power = s.power := rfl
@[simp] theorem State.setXResp_tbc (s : State) (m : Nat) (r : XResp) : (s.setXResp m r).tbc = s.tbc := rfl
@[simp] theorem State.setXResp_sck (s : State) (m : Nat) (r : XResp) : (s.setXResp m r).sck = s.sck := rfl
@[simp] theorem State.setXResp_objs (s : State) (m : Nat) (r : XResp) : (s.setXResp m r).objs = s.objs := rfl
@[simp] theorem State.setXResp_link (s : State) (m : Nat) (r : XResp) : (s.setXResp m r).link = s.link := rfl
@[simp] theorem State.setXResp_queue (s : State) (m : Nat) (r : XResp) : (s.setXResp m r).queue = s.queue := rfl
@[simp] theorem State.setXResp_staging (s : State) (m : Nat) (r : XResp) : (s.setXResp m r).staging = s.staging := rfl
@[simp] theorem State.setXResp_tenants (s : State) (m : Nat) (r : XResp) : (s.setXResp m r).tenants = s.tenants := rfl
@[simp] theorem State.setXResp_ev (s : State) (m : Nat) (r : XResp) : (s.setXResp m r).ev = s.ev := rfl
@[simp] theorem State.setXResp_bank (s : State) (m : Nat) (r : XResp) : (s.setXResp m r).bank = s.bank := rfl
@[simp] theorem State.setXResp_xb (s : State) (m : Nat) (r : XResp) : (s.setXResp m r).xb = { s.xb with resp := tabSet {} s.xb.resp m r } := rfl
@[simp] theorem State.setXResp_dram (s : State) (m : Nat) (r : XResp) : (s.setXResp m r).dram = s.dram := rfl
@[simp] theorem State.setXResp_refs (s : State) (m : Nat) (r : XResp) : (s.setXResp m r).refs = s.refs := rfl
@[simp] theorem State.setXResp_inputs (s : State) (m : Nat) (r : XResp) : (s.setXResp m r).inputs = s.inputs := rfl
@[simp] theorem State.setXResp_readers (s : State) (m : Nat) (r : XResp) : (s.setXResp m r).readers = s.readers := rfl
@[simp] theorem State.setXResp_outputs (s : State) (m : Nat) (r : XResp) : (s.setXResp m r).outputs = s.outputs := rfl
@[simp] theorem State.setXResp_audio (s : State) (m : Nat) (r : XResp) : (s.setXResp m r).audio = s.audio := rfl
@[simp] theorem State.setXResp_lamps (s : State) (m : Nat) (r : XResp) : (s.setXResp m r).lamps = s.lamps := rfl
@[simp] theorem State.setXResp_mtp (s : State) (m : Nat) (r : XResp) : (s.setXResp m r).mtp = s.mtp := rfl
@[simp] theorem State.setXResp_kick (s : State) (m : Nat) (r : XResp) : (s.setXResp m r).kick = s.kick := rfl
@[simp] theorem State.setXResp_whis (s : State) (m : Nat) (r : XResp) : (s.setXResp m r).whis = s.whis := rfl
@[simp] theorem State.setXResp_spans (s : State) (m : Nat) (r : XResp) : (s.setXResp m r).spans = s.spans := rfl
@[simp] theorem State.setXResp_cue (s : State) (m : Nat) (r : XResp) : (s.setXResp m r).cue = s.cue := rfl
@[simp] theorem State.setXResp_jtag (s : State) (m : Nat) (r : XResp) : (s.setXResp m r).jtag = s.jtag := rfl
@[simp] theorem State.setXResp_mem (s : State) (m : Nat) (r : XResp) : (s.setXResp m r).mem = s.mem := rfl
@[simp] theorem State.setXResp_seed (s : State) (m : Nat) (r : XResp) : (s.setXResp m r).seed = s.seed := rfl
@[simp] theorem State.setXResp_pending (s : State) (m : Nat) (r : XResp) : (s.setXResp m r).pending = s.pending := rfl

/-! ### State.setInput -/
@[simp] theorem State.setInput_straps (s : State) (n : Nat) (x : Input) : (s.setInput n x).straps = s.straps := rfl
@[simp] theorem State.setInput_power (s : State) (n : Nat) (x : Input) : (s.setInput n x).power = s.power := rfl
@[simp] theorem State.setInput_tbc (s : State) (n : Nat) (x : Input) : (s.setInput n x).tbc = s.tbc := rfl
@[simp] theorem State.setInput_sck (s : State) (n : Nat) (x : Input) : (s.setInput n x).sck = s.sck := rfl
@[simp] theorem State.setInput_objs (s : State) (n : Nat) (x : Input) : (s.setInput n x).objs = s.objs := rfl
@[simp] theorem State.setInput_link (s : State) (n : Nat) (x : Input) : (s.setInput n x).link = s.link := rfl
@[simp] theorem State.setInput_queue (s : State) (n : Nat) (x : Input) : (s.setInput n x).queue = s.queue := rfl
@[simp] theorem State.setInput_staging (s : State) (n : Nat) (x : Input) : (s.setInput n x).staging = s.staging := rfl
@[simp] theorem State.setInput_tenants (s : State) (n : Nat) (x : Input) : (s.setInput n x).tenants = s.tenants := rfl
@[simp] theorem State.setInput_ev (s : State) (n : Nat) (x : Input) : (s.setInput n x).ev = s.ev := rfl
@[simp] theorem State.setInput_bank (s : State) (n : Nat) (x : Input) : (s.setInput n x).bank = s.bank := rfl
@[simp] theorem State.setInput_xb (s : State) (n : Nat) (x : Input) : (s.setInput n x).xb = s.xb := rfl
@[simp] theorem State.setInput_dram (s : State) (n : Nat) (x : Input) : (s.setInput n x).dram = s.dram := rfl
@[simp] theorem State.setInput_refs (s : State) (n : Nat) (x : Input) : (s.setInput n x).refs = s.refs := rfl
@[simp] theorem State.setInput_inputs (s : State) (n : Nat) (x : Input) : (s.setInput n x).inputs = tabSet {} s.inputs n x := rfl
@[simp] theorem State.setInput_readers (s : State) (n : Nat) (x : Input) : (s.setInput n x).readers = s.readers := rfl
@[simp] theorem State.setInput_outputs (s : State) (n : Nat) (x : Input) : (s.setInput n x).outputs = s.outputs := rfl
@[simp] theorem State.setInput_audio (s : State) (n : Nat) (x : Input) : (s.setInput n x).audio = s.audio := rfl
@[simp] theorem State.setInput_lamps (s : State) (n : Nat) (x : Input) : (s.setInput n x).lamps = s.lamps := rfl
@[simp] theorem State.setInput_mtp (s : State) (n : Nat) (x : Input) : (s.setInput n x).mtp = s.mtp := rfl
@[simp] theorem State.setInput_kick (s : State) (n : Nat) (x : Input) : (s.setInput n x).kick = s.kick := rfl
@[simp] theorem State.setInput_whis (s : State) (n : Nat) (x : Input) : (s.setInput n x).whis = s.whis := rfl
@[simp] theorem State.setInput_spans (s : State) (n : Nat) (x : Input) : (s.setInput n x).spans = s.spans := rfl
@[simp] theorem State.setInput_cue (s : State) (n : Nat) (x : Input) : (s.setInput n x).cue = s.cue := rfl
@[simp] theorem State.setInput_jtag (s : State) (n : Nat) (x : Input) : (s.setInput n x).jtag = s.jtag := rfl
@[simp] theorem State.setInput_mem (s : State) (n : Nat) (x : Input) : (s.setInput n x).mem = s.mem := rfl
@[simp] theorem State.setInput_seed (s : State) (n : Nat) (x : Input) : (s.setInput n x).seed = s.seed := rfl
@[simp] theorem State.setInput_pending (s : State) (n : Nat) (x : Input) : (s.setInput n x).pending = s.pending := rfl

/-! ### State.setReader -/
@[simp] theorem State.setReader_straps (s : State) (e : Nat) (x : Reader) : (s.setReader e x).straps = s.straps := rfl
@[simp] theorem State.setReader_power (s : State) (e : Nat) (x : Reader) : (s.setReader e x).power = s.power := rfl
@[simp] theorem State.setReader_tbc (s : State) (e : Nat) (x : Reader) : (s.setReader e x).tbc = s.tbc := rfl
@[simp] theorem State.setReader_sck (s : State) (e : Nat) (x : Reader) : (s.setReader e x).sck = s.sck := rfl
@[simp] theorem State.setReader_objs (s : State) (e : Nat) (x : Reader) : (s.setReader e x).objs = s.objs := rfl
@[simp] theorem State.setReader_link (s : State) (e : Nat) (x : Reader) : (s.setReader e x).link = s.link := rfl
@[simp] theorem State.setReader_queue (s : State) (e : Nat) (x : Reader) : (s.setReader e x).queue = s.queue := rfl
@[simp] theorem State.setReader_staging (s : State) (e : Nat) (x : Reader) : (s.setReader e x).staging = s.staging := rfl
@[simp] theorem State.setReader_tenants (s : State) (e : Nat) (x : Reader) : (s.setReader e x).tenants = s.tenants := rfl
@[simp] theorem State.setReader_ev (s : State) (e : Nat) (x : Reader) : (s.setReader e x).ev = s.ev := rfl
@[simp] theorem State.setReader_bank (s : State) (e : Nat) (x : Reader) : (s.setReader e x).bank = s.bank := rfl
@[simp] theorem State.setReader_xb (s : State) (e : Nat) (x : Reader) : (s.setReader e x).xb = s.xb := rfl
@[simp] theorem State.setReader_dram (s : State) (e : Nat) (x : Reader) : (s.setReader e x).dram = s.dram := rfl
@[simp] theorem State.setReader_refs (s : State) (e : Nat) (x : Reader) : (s.setReader e x).refs = s.refs := rfl
@[simp] theorem State.setReader_inputs (s : State) (e : Nat) (x : Reader) : (s.setReader e x).inputs = s.inputs := rfl
@[simp] theorem State.setReader_readers (s : State) (e : Nat) (x : Reader) : (s.setReader e x).readers = tabSet {} s.readers e x := rfl
@[simp] theorem State.setReader_outputs (s : State) (e : Nat) (x : Reader) : (s.setReader e x).outputs = s.outputs := rfl
@[simp] theorem State.setReader_audio (s : State) (e : Nat) (x : Reader) : (s.setReader e x).audio = s.audio := rfl
@[simp] theorem State.setReader_lamps (s : State) (e : Nat) (x : Reader) : (s.setReader e x).lamps = s.lamps := rfl
@[simp] theorem State.setReader_mtp (s : State) (e : Nat) (x : Reader) : (s.setReader e x).mtp = s.mtp := rfl
@[simp] theorem State.setReader_kick (s : State) (e : Nat) (x : Reader) : (s.setReader e x).kick = s.kick := rfl
@[simp] theorem State.setReader_whis (s : State) (e : Nat) (x : Reader) : (s.setReader e x).whis = s.whis := rfl
@[simp] theorem State.setReader_spans (s : State) (e : Nat) (x : Reader) : (s.setReader e x).spans = s.spans := rfl
@[simp] theorem State.setReader_cue (s : State) (e : Nat) (x : Reader) : (s.setReader e x).cue = s.cue := rfl
@[simp] theorem State.setReader_jtag (s : State) (e : Nat) (x : Reader) : (s.setReader e x).jtag = s.jtag := rfl
@[simp] theorem State.setReader_mem (s : State) (e : Nat) (x : Reader) : (s.setReader e x).mem = s.mem := rfl
@[simp] theorem State.setReader_seed (s : State) (e : Nat) (x : Reader) : (s.setReader e x).seed = s.seed := rfl
@[simp] theorem State.setReader_pending (s : State) (e : Nat) (x : Reader) : (s.setReader e x).pending = s.pending := rfl

/-! ### State.setOutput -/
@[simp] theorem State.setOutput_straps (s : State) (n : Nat) (o : Output) : (s.setOutput n o).straps = s.straps := rfl
@[simp] theorem State.setOutput_power (s : State) (n : Nat) (o : Output) : (s.setOutput n o).power = s.power := rfl
@[simp] theorem State.setOutput_tbc (s : State) (n : Nat) (o : Output) : (s.setOutput n o).tbc = s.tbc := rfl
@[simp] theorem State.setOutput_sck (s : State) (n : Nat) (o : Output) : (s.setOutput n o).sck = s.sck := rfl
@[simp] theorem State.setOutput_objs (s : State) (n : Nat) (o : Output) : (s.setOutput n o).objs = s.objs := rfl
@[simp] theorem State.setOutput_link (s : State) (n : Nat) (o : Output) : (s.setOutput n o).link = s.link := rfl
@[simp] theorem State.setOutput_queue (s : State) (n : Nat) (o : Output) : (s.setOutput n o).queue = s.queue := rfl
@[simp] theorem State.setOutput_staging (s : State) (n : Nat) (o : Output) : (s.setOutput n o).staging = s.staging := rfl
@[simp] theorem State.setOutput_tenants (s : State) (n : Nat) (o : Output) : (s.setOutput n o).tenants = s.tenants := rfl
@[simp] theorem State.setOutput_ev (s : State) (n : Nat) (o : Output) : (s.setOutput n o).ev = s.ev := rfl
@[simp] theorem State.setOutput_bank (s : State) (n : Nat) (o : Output) : (s.setOutput n o).bank = s.bank := rfl
@[simp] theorem State.setOutput_xb (s : State) (n : Nat) (o : Output) : (s.setOutput n o).xb = s.xb := rfl
@[simp] theorem State.setOutput_dram (s : State) (n : Nat) (o : Output) : (s.setOutput n o).dram = s.dram := rfl
@[simp] theorem State.setOutput_refs (s : State) (n : Nat) (o : Output) : (s.setOutput n o).refs = s.refs := rfl
@[simp] theorem State.setOutput_inputs (s : State) (n : Nat) (o : Output) : (s.setOutput n o).inputs = s.inputs := rfl
@[simp] theorem State.setOutput_readers (s : State) (n : Nat) (o : Output) : (s.setOutput n o).readers = s.readers := rfl
@[simp] theorem State.setOutput_outputs (s : State) (n : Nat) (o : Output) : (s.setOutput n o).outputs = tabSet {} s.outputs n o := rfl
@[simp] theorem State.setOutput_audio (s : State) (n : Nat) (o : Output) : (s.setOutput n o).audio = s.audio := rfl
@[simp] theorem State.setOutput_lamps (s : State) (n : Nat) (o : Output) : (s.setOutput n o).lamps = s.lamps := rfl
@[simp] theorem State.setOutput_mtp (s : State) (n : Nat) (o : Output) : (s.setOutput n o).mtp = s.mtp := rfl
@[simp] theorem State.setOutput_kick (s : State) (n : Nat) (o : Output) : (s.setOutput n o).kick = s.kick := rfl
@[simp] theorem State.setOutput_whis (s : State) (n : Nat) (o : Output) : (s.setOutput n o).whis = s.whis := rfl
@[simp] theorem State.setOutput_spans (s : State) (n : Nat) (o : Output) : (s.setOutput n o).spans = s.spans := rfl
@[simp] theorem State.setOutput_cue (s : State) (n : Nat) (o : Output) : (s.setOutput n o).cue = s.cue := rfl
@[simp] theorem State.setOutput_jtag (s : State) (n : Nat) (o : Output) : (s.setOutput n o).jtag = s.jtag := rfl
@[simp] theorem State.setOutput_mem (s : State) (n : Nat) (o : Output) : (s.setOutput n o).mem = s.mem := rfl
@[simp] theorem State.setOutput_seed (s : State) (n : Nat) (o : Output) : (s.setOutput n o).seed = s.seed := rfl
@[simp] theorem State.setOutput_pending (s : State) (n : Nat) (o : Output) : (s.setOutput n o).pending = s.pending := rfl

/-! ### State.setFeed -/
@[simp] theorem State.setFeed_straps (s : State) (k : Nat) (x : Feed) : (s.setFeed k x).straps = s.straps := rfl
@[simp] theorem State.setFeed_power (s : State) (k : Nat) (x : Feed) : (s.setFeed k x).power = s.power := rfl
@[simp] theorem State.setFeed_tbc (s : State) (k : Nat) (x : Feed) : (s.setFeed k x).tbc = s.tbc := rfl
@[simp] theorem State.setFeed_sck (s : State) (k : Nat) (x : Feed) : (s.setFeed k x).sck = s.sck := rfl
@[simp] theorem State.setFeed_objs (s : State) (k : Nat) (x : Feed) : (s.setFeed k x).objs = s.objs := rfl
@[simp] theorem State.setFeed_link (s : State) (k : Nat) (x : Feed) : (s.setFeed k x).link = s.link := rfl
@[simp] theorem State.setFeed_queue (s : State) (k : Nat) (x : Feed) : (s.setFeed k x).queue = s.queue := rfl
@[simp] theorem State.setFeed_staging (s : State) (k : Nat) (x : Feed) : (s.setFeed k x).staging = s.staging := rfl
@[simp] theorem State.setFeed_tenants (s : State) (k : Nat) (x : Feed) : (s.setFeed k x).tenants = s.tenants := rfl
@[simp] theorem State.setFeed_ev (s : State) (k : Nat) (x : Feed) : (s.setFeed k x).ev = s.ev := rfl
@[simp] theorem State.setFeed_bank (s : State) (k : Nat) (x : Feed) : (s.setFeed k x).bank = s.bank := rfl
@[simp] theorem State.setFeed_xb (s : State) (k : Nat) (x : Feed) : (s.setFeed k x).xb = s.xb := rfl
@[simp] theorem State.setFeed_dram (s : State) (k : Nat) (x : Feed) : (s.setFeed k x).dram = s.dram := rfl
@[simp] theorem State.setFeed_refs (s : State) (k : Nat) (x : Feed) : (s.setFeed k x).refs = s.refs := rfl
@[simp] theorem State.setFeed_inputs (s : State) (k : Nat) (x : Feed) : (s.setFeed k x).inputs = s.inputs := rfl
@[simp] theorem State.setFeed_readers (s : State) (k : Nat) (x : Feed) : (s.setFeed k x).readers = s.readers := rfl
@[simp] theorem State.setFeed_outputs (s : State) (k : Nat) (x : Feed) : (s.setFeed k x).outputs = s.outputs := rfl
@[simp] theorem State.setFeed_audio (s : State) (k : Nat) (x : Feed) : (s.setFeed k x).audio = { s.audio with feeds := tabSet {} s.audio.feeds k x } := rfl
@[simp] theorem State.setFeed_lamps (s : State) (k : Nat) (x : Feed) : (s.setFeed k x).lamps = s.lamps := rfl
@[simp] theorem State.setFeed_mtp (s : State) (k : Nat) (x : Feed) : (s.setFeed k x).mtp = s.mtp := rfl
@[simp] theorem State.setFeed_kick (s : State) (k : Nat) (x : Feed) : (s.setFeed k x).kick = s.kick := rfl
@[simp] theorem State.setFeed_whis (s : State) (k : Nat) (x : Feed) : (s.setFeed k x).whis = s.whis := rfl
@[simp] theorem State.setFeed_spans (s : State) (k : Nat) (x : Feed) : (s.setFeed k x).spans = s.spans := rfl
@[simp] theorem State.setFeed_cue (s : State) (k : Nat) (x : Feed) : (s.setFeed k x).cue = s.cue := rfl
@[simp] theorem State.setFeed_jtag (s : State) (k : Nat) (x : Feed) : (s.setFeed k x).jtag = s.jtag := rfl
@[simp] theorem State.setFeed_mem (s : State) (k : Nat) (x : Feed) : (s.setFeed k x).mem = s.mem := rfl
@[simp] theorem State.setFeed_seed (s : State) (k : Nat) (x : Feed) : (s.setFeed k x).seed = s.seed := rfl
@[simp] theorem State.setFeed_pending (s : State) (k : Nat) (x : Feed) : (s.setFeed k x).pending = s.pending := rfl

/-! ### State.setDest -/
@[simp] theorem State.setDest_straps (s : State) (k : Nat) (x : Dest) : (s.setDest k x).straps = s.straps := rfl
@[simp] theorem State.setDest_power (s : State) (k : Nat) (x : Dest) : (s.setDest k x).power = s.power := rfl
@[simp] theorem State.setDest_tbc (s : State) (k : Nat) (x : Dest) : (s.setDest k x).tbc = s.tbc := rfl
@[simp] theorem State.setDest_sck (s : State) (k : Nat) (x : Dest) : (s.setDest k x).sck = s.sck := rfl
@[simp] theorem State.setDest_objs (s : State) (k : Nat) (x : Dest) : (s.setDest k x).objs = s.objs := rfl
@[simp] theorem State.setDest_link (s : State) (k : Nat) (x : Dest) : (s.setDest k x).link = s.link := rfl
@[simp] theorem State.setDest_queue (s : State) (k : Nat) (x : Dest) : (s.setDest k x).queue = s.queue := rfl
@[simp] theorem State.setDest_staging (s : State) (k : Nat) (x : Dest) : (s.setDest k x).staging = s.staging := rfl
@[simp] theorem State.setDest_tenants (s : State) (k : Nat) (x : Dest) : (s.setDest k x).tenants = s.tenants := rfl
@[simp] theorem State.setDest_ev (s : State) (k : Nat) (x : Dest) : (s.setDest k x).ev = s.ev := rfl
@[simp] theorem State.setDest_bank (s : State) (k : Nat) (x : Dest) : (s.setDest k x).bank = s.bank := rfl
@[simp] theorem State.setDest_xb (s : State) (k : Nat) (x : Dest) : (s.setDest k x).xb = s.xb := rfl
@[simp] theorem State.setDest_dram (s : State) (k : Nat) (x : Dest) : (s.setDest k x).dram = s.dram := rfl
@[simp] theorem State.setDest_refs (s : State) (k : Nat) (x : Dest) : (s.setDest k x).refs = s.refs := rfl
@[simp] theorem State.setDest_inputs (s : State) (k : Nat) (x : Dest) : (s.setDest k x).inputs = s.inputs := rfl
@[simp] theorem State.setDest_readers (s : State) (k : Nat) (x : Dest) : (s.setDest k x).readers = s.readers := rfl
@[simp] theorem State.setDest_outputs (s : State) (k : Nat) (x : Dest) : (s.setDest k x).outputs = s.outputs := rfl
@[simp] theorem State.setDest_audio (s : State) (k : Nat) (x : Dest) : (s.setDest k x).audio = { s.audio with dests := tabSet {} s.audio.dests k x } := rfl
@[simp] theorem State.setDest_lamps (s : State) (k : Nat) (x : Dest) : (s.setDest k x).lamps = s.lamps := rfl
@[simp] theorem State.setDest_mtp (s : State) (k : Nat) (x : Dest) : (s.setDest k x).mtp = s.mtp := rfl
@[simp] theorem State.setDest_kick (s : State) (k : Nat) (x : Dest) : (s.setDest k x).kick = s.kick := rfl
@[simp] theorem State.setDest_whis (s : State) (k : Nat) (x : Dest) : (s.setDest k x).whis = s.whis := rfl
@[simp] theorem State.setDest_spans (s : State) (k : Nat) (x : Dest) : (s.setDest k x).spans = s.spans := rfl
@[simp] theorem State.setDest_cue (s : State) (k : Nat) (x : Dest) : (s.setDest k x).cue = s.cue := rfl
@[simp] theorem State.setDest_jtag (s : State) (k : Nat) (x : Dest) : (s.setDest k x).jtag = s.jtag := rfl
@[simp] theorem State.setDest_mem (s : State) (k : Nat) (x : Dest) : (s.setDest k x).mem = s.mem := rfl
@[simp] theorem State.setDest_seed (s : State) (k : Nat) (x : Dest) : (s.setDest k x).seed = s.seed := rfl
@[simp] theorem State.setDest_pending (s : State) (k : Nat) (x : Dest) : (s.setDest k x).pending = s.pending := rfl

/-! ### State.setSrc -/
@[simp] theorem State.setSrc_straps (s : State) (k : Nat) (x : SrcStat) : (s.setSrc k x).straps = s.straps := rfl
@[simp] theorem State.setSrc_power (s : State) (k : Nat) (x : SrcStat) : (s.setSrc k x).power = s.power := rfl
@[simp] theorem State.setSrc_tbc (s : State) (k : Nat) (x : SrcStat) : (s.setSrc k x).tbc = s.tbc := rfl
@[simp] theorem State.setSrc_sck (s : State) (k : Nat) (x : SrcStat) : (s.setSrc k x).sck = s.sck := rfl
@[simp] theorem State.setSrc_objs (s : State) (k : Nat) (x : SrcStat) : (s.setSrc k x).objs = s.objs := rfl
@[simp] theorem State.setSrc_link (s : State) (k : Nat) (x : SrcStat) : (s.setSrc k x).link = s.link := rfl
@[simp] theorem State.setSrc_queue (s : State) (k : Nat) (x : SrcStat) : (s.setSrc k x).queue = s.queue := rfl
@[simp] theorem State.setSrc_staging (s : State) (k : Nat) (x : SrcStat) : (s.setSrc k x).staging = s.staging := rfl
@[simp] theorem State.setSrc_tenants (s : State) (k : Nat) (x : SrcStat) : (s.setSrc k x).tenants = s.tenants := rfl
@[simp] theorem State.setSrc_ev (s : State) (k : Nat) (x : SrcStat) : (s.setSrc k x).ev = s.ev := rfl
@[simp] theorem State.setSrc_bank (s : State) (k : Nat) (x : SrcStat) : (s.setSrc k x).bank = s.bank := rfl
@[simp] theorem State.setSrc_xb (s : State) (k : Nat) (x : SrcStat) : (s.setSrc k x).xb = s.xb := rfl
@[simp] theorem State.setSrc_dram (s : State) (k : Nat) (x : SrcStat) : (s.setSrc k x).dram = s.dram := rfl
@[simp] theorem State.setSrc_refs (s : State) (k : Nat) (x : SrcStat) : (s.setSrc k x).refs = s.refs := rfl
@[simp] theorem State.setSrc_inputs (s : State) (k : Nat) (x : SrcStat) : (s.setSrc k x).inputs = s.inputs := rfl
@[simp] theorem State.setSrc_readers (s : State) (k : Nat) (x : SrcStat) : (s.setSrc k x).readers = s.readers := rfl
@[simp] theorem State.setSrc_outputs (s : State) (k : Nat) (x : SrcStat) : (s.setSrc k x).outputs = s.outputs := rfl
@[simp] theorem State.setSrc_audio (s : State) (k : Nat) (x : SrcStat) : (s.setSrc k x).audio = { s.audio with srcs := tabSet {} s.audio.srcs k x } := rfl
@[simp] theorem State.setSrc_lamps (s : State) (k : Nat) (x : SrcStat) : (s.setSrc k x).lamps = s.lamps := rfl
@[simp] theorem State.setSrc_mtp (s : State) (k : Nat) (x : SrcStat) : (s.setSrc k x).mtp = s.mtp := rfl
@[simp] theorem State.setSrc_kick (s : State) (k : Nat) (x : SrcStat) : (s.setSrc k x).kick = s.kick := rfl
@[simp] theorem State.setSrc_whis (s : State) (k : Nat) (x : SrcStat) : (s.setSrc k x).whis = s.whis := rfl
@[simp] theorem State.setSrc_spans (s : State) (k : Nat) (x : SrcStat) : (s.setSrc k x).spans = s.spans := rfl
@[simp] theorem State.setSrc_cue (s : State) (k : Nat) (x : SrcStat) : (s.setSrc k x).cue = s.cue := rfl
@[simp] theorem State.setSrc_jtag (s : State) (k : Nat) (x : SrcStat) : (s.setSrc k x).jtag = s.jtag := rfl
@[simp] theorem State.setSrc_mem (s : State) (k : Nat) (x : SrcStat) : (s.setSrc k x).mem = s.mem := rfl
@[simp] theorem State.setSrc_seed (s : State) (k : Nat) (x : SrcStat) : (s.setSrc k x).seed = s.seed := rfl
@[simp] theorem State.setSrc_pending (s : State) (k : Nat) (x : SrcStat) : (s.setSrc k x).pending = s.pending := rfl

/-! ### State.setSap -/
@[simp] theorem State.setSap_straps (s : State) (k : Nat) (x : Sap) : (s.setSap k x).straps = s.straps := rfl
@[simp] theorem State.setSap_power (s : State) (k : Nat) (x : Sap) : (s.setSap k x).power = s.power := rfl
@[simp] theorem State.setSap_tbc (s : State) (k : Nat) (x : Sap) : (s.setSap k x).tbc = s.tbc := rfl
@[simp] theorem State.setSap_sck (s : State) (k : Nat) (x : Sap) : (s.setSap k x).sck = s.sck := rfl
@[simp] theorem State.setSap_objs (s : State) (k : Nat) (x : Sap) : (s.setSap k x).objs = s.objs := rfl
@[simp] theorem State.setSap_link (s : State) (k : Nat) (x : Sap) : (s.setSap k x).link = s.link := rfl
@[simp] theorem State.setSap_queue (s : State) (k : Nat) (x : Sap) : (s.setSap k x).queue = s.queue := rfl
@[simp] theorem State.setSap_staging (s : State) (k : Nat) (x : Sap) : (s.setSap k x).staging = s.staging := rfl
@[simp] theorem State.setSap_tenants (s : State) (k : Nat) (x : Sap) : (s.setSap k x).tenants = s.tenants := rfl
@[simp] theorem State.setSap_ev (s : State) (k : Nat) (x : Sap) : (s.setSap k x).ev = s.ev := rfl
@[simp] theorem State.setSap_bank (s : State) (k : Nat) (x : Sap) : (s.setSap k x).bank = s.bank := rfl
@[simp] theorem State.setSap_xb (s : State) (k : Nat) (x : Sap) : (s.setSap k x).xb = s.xb := rfl
@[simp] theorem State.setSap_dram (s : State) (k : Nat) (x : Sap) : (s.setSap k x).dram = s.dram := rfl
@[simp] theorem State.setSap_refs (s : State) (k : Nat) (x : Sap) : (s.setSap k x).refs = s.refs := rfl
@[simp] theorem State.setSap_inputs (s : State) (k : Nat) (x : Sap) : (s.setSap k x).inputs = s.inputs := rfl
@[simp] theorem State.setSap_readers (s : State) (k : Nat) (x : Sap) : (s.setSap k x).readers = s.readers := rfl
@[simp] theorem State.setSap_outputs (s : State) (k : Nat) (x : Sap) : (s.setSap k x).outputs = s.outputs := rfl
@[simp] theorem State.setSap_audio (s : State) (k : Nat) (x : Sap) : (s.setSap k x).audio = { s.audio with saps := tabSet {} s.audio.saps k x } := rfl
@[simp] theorem State.setSap_lamps (s : State) (k : Nat) (x : Sap) : (s.setSap k x).lamps = s.lamps := rfl
@[simp] theorem State.setSap_mtp (s : State) (k : Nat) (x : Sap) : (s.setSap k x).mtp = s.mtp := rfl
@[simp] theorem State.setSap_kick (s : State) (k : Nat) (x : Sap) : (s.setSap k x).kick = s.kick := rfl
@[simp] theorem State.setSap_whis (s : State) (k : Nat) (x : Sap) : (s.setSap k x).whis = s.whis := rfl
@[simp] theorem State.setSap_spans (s : State) (k : Nat) (x : Sap) : (s.setSap k x).spans = s.spans := rfl
@[simp] theorem State.setSap_cue (s : State) (k : Nat) (x : Sap) : (s.setSap k x).cue = s.cue := rfl
@[simp] theorem State.setSap_jtag (s : State) (k : Nat) (x : Sap) : (s.setSap k x).jtag = s.jtag := rfl
@[simp] theorem State.setSap_mem (s : State) (k : Nat) (x : Sap) : (s.setSap k x).mem = s.mem := rfl
@[simp] theorem State.setSap_seed (s : State) (k : Nat) (x : Sap) : (s.setSap k x).seed = s.seed := rfl
@[simp] theorem State.setSap_pending (s : State) (k : Nat) (x : Sap) : (s.setSap k x).pending = s.pending := rfl

/-! ### State.setRing -/
@[simp] theorem State.setRing_straps (s : State) (k : Nat) (x : Ring) : (s.setRing k x).straps = s.straps := rfl
@[simp] theorem State.setRing_power (s : State) (k : Nat) (x : Ring) : (s.setRing k x).power = s.power := rfl
@[simp] theorem State.setRing_tbc (s : State) (k : Nat) (x : Ring) : (s.setRing k x).tbc = s.tbc := rfl
@[simp] theorem State.setRing_sck (s : State) (k : Nat) (x : Ring) : (s.setRing k x).sck = s.sck := rfl
@[simp] theorem State.setRing_objs (s : State) (k : Nat) (x : Ring) : (s.setRing k x).objs = s.objs := rfl
@[simp] theorem State.setRing_link (s : State) (k : Nat) (x : Ring) : (s.setRing k x).link = s.link := rfl
@[simp] theorem State.setRing_queue (s : State) (k : Nat) (x : Ring) : (s.setRing k x).queue = s.queue := rfl
@[simp] theorem State.setRing_staging (s : State) (k : Nat) (x : Ring) : (s.setRing k x).staging = s.staging := rfl
@[simp] theorem State.setRing_tenants (s : State) (k : Nat) (x : Ring) : (s.setRing k x).tenants = s.tenants := rfl
@[simp] theorem State.setRing_ev (s : State) (k : Nat) (x : Ring) : (s.setRing k x).ev = s.ev := rfl
@[simp] theorem State.setRing_bank (s : State) (k : Nat) (x : Ring) : (s.setRing k x).bank = s.bank := rfl
@[simp] theorem State.setRing_xb (s : State) (k : Nat) (x : Ring) : (s.setRing k x).xb = s.xb := rfl
@[simp] theorem State.setRing_dram (s : State) (k : Nat) (x : Ring) : (s.setRing k x).dram = s.dram := rfl
@[simp] theorem State.setRing_refs (s : State) (k : Nat) (x : Ring) : (s.setRing k x).refs = s.refs := rfl
@[simp] theorem State.setRing_inputs (s : State) (k : Nat) (x : Ring) : (s.setRing k x).inputs = s.inputs := rfl
@[simp] theorem State.setRing_readers (s : State) (k : Nat) (x : Ring) : (s.setRing k x).readers = s.readers := rfl
@[simp] theorem State.setRing_outputs (s : State) (k : Nat) (x : Ring) : (s.setRing k x).outputs = s.outputs := rfl
@[simp] theorem State.setRing_audio (s : State) (k : Nat) (x : Ring) : (s.setRing k x).audio = { s.audio with rings := tabSet {} s.audio.rings k x } := rfl
@[simp] theorem State.setRing_lamps (s : State) (k : Nat) (x : Ring) : (s.setRing k x).lamps = s.lamps := rfl
@[simp] theorem State.setRing_mtp (s : State) (k : Nat) (x : Ring) : (s.setRing k x).mtp = s.mtp := rfl
@[simp] theorem State.setRing_kick (s : State) (k : Nat) (x : Ring) : (s.setRing k x).kick = s.kick := rfl
@[simp] theorem State.setRing_whis (s : State) (k : Nat) (x : Ring) : (s.setRing k x).whis = s.whis := rfl
@[simp] theorem State.setRing_spans (s : State) (k : Nat) (x : Ring) : (s.setRing k x).spans = s.spans := rfl
@[simp] theorem State.setRing_cue (s : State) (k : Nat) (x : Ring) : (s.setRing k x).cue = s.cue := rfl
@[simp] theorem State.setRing_jtag (s : State) (k : Nat) (x : Ring) : (s.setRing k x).jtag = s.jtag := rfl
@[simp] theorem State.setRing_mem (s : State) (k : Nat) (x : Ring) : (s.setRing k x).mem = s.mem := rfl
@[simp] theorem State.setRing_seed (s : State) (k : Nat) (x : Ring) : (s.setRing k x).seed = s.seed := rfl
@[simp] theorem State.setRing_pending (s : State) (k : Nat) (x : Ring) : (s.setRing k x).pending = s.pending := rfl

/-! ### State.setLamp -/
@[simp] theorem State.setLamp_straps (s : State) (c : Nat) (x : Lamp) : (s.setLamp c x).straps = s.straps := rfl
@[simp] theorem State.setLamp_power (s : State) (c : Nat) (x : Lamp) : (s.setLamp c x).power = s.power := rfl
@[simp] theorem State.setLamp_tbc (s : State) (c : Nat) (x : Lamp) : (s.setLamp c x).tbc = s.tbc := rfl
@[simp] theorem State.setLamp_sck (s : State) (c : Nat) (x : Lamp) : (s.setLamp c x).sck = s.sck := rfl
@[simp] theorem State.setLamp_objs (s : State) (c : Nat) (x : Lamp) : (s.setLamp c x).objs = s.objs := rfl
@[simp] theorem State.setLamp_link (s : State) (c : Nat) (x : Lamp) : (s.setLamp c x).link = s.link := rfl
@[simp] theorem State.setLamp_queue (s : State) (c : Nat) (x : Lamp) : (s.setLamp c x).queue = s.queue := rfl
@[simp] theorem State.setLamp_staging (s : State) (c : Nat) (x : Lamp) : (s.setLamp c x).staging = s.staging := rfl
@[simp] theorem State.setLamp_tenants (s : State) (c : Nat) (x : Lamp) : (s.setLamp c x).tenants = s.tenants := rfl
@[simp] theorem State.setLamp_ev (s : State) (c : Nat) (x : Lamp) : (s.setLamp c x).ev = s.ev := rfl
@[simp] theorem State.setLamp_bank (s : State) (c : Nat) (x : Lamp) : (s.setLamp c x).bank = s.bank := rfl
@[simp] theorem State.setLamp_xb (s : State) (c : Nat) (x : Lamp) : (s.setLamp c x).xb = s.xb := rfl
@[simp] theorem State.setLamp_dram (s : State) (c : Nat) (x : Lamp) : (s.setLamp c x).dram = s.dram := rfl
@[simp] theorem State.setLamp_refs (s : State) (c : Nat) (x : Lamp) : (s.setLamp c x).refs = s.refs := rfl
@[simp] theorem State.setLamp_inputs (s : State) (c : Nat) (x : Lamp) : (s.setLamp c x).inputs = s.inputs := rfl
@[simp] theorem State.setLamp_readers (s : State) (c : Nat) (x : Lamp) : (s.setLamp c x).readers = s.readers := rfl
@[simp] theorem State.setLamp_outputs (s : State) (c : Nat) (x : Lamp) : (s.setLamp c x).outputs = s.outputs := rfl
@[simp] theorem State.setLamp_audio (s : State) (c : Nat) (x : Lamp) : (s.setLamp c x).audio = s.audio := rfl
@[simp] theorem State.setLamp_lamps (s : State) (c : Nat) (x : Lamp) : (s.setLamp c x).lamps = { s.lamps with ch := tabSet {} s.lamps.ch c x } := rfl
@[simp] theorem State.setLamp_mtp (s : State) (c : Nat) (x : Lamp) : (s.setLamp c x).mtp = s.mtp := rfl
@[simp] theorem State.setLamp_kick (s : State) (c : Nat) (x : Lamp) : (s.setLamp c x).kick = s.kick := rfl
@[simp] theorem State.setLamp_whis (s : State) (c : Nat) (x : Lamp) : (s.setLamp c x).whis = s.whis := rfl
@[simp] theorem State.setLamp_spans (s : State) (c : Nat) (x : Lamp) : (s.setLamp c x).spans = s.spans := rfl
@[simp] theorem State.setLamp_cue (s : State) (c : Nat) (x : Lamp) : (s.setLamp c x).cue = s.cue := rfl
@[simp] theorem State.setLamp_jtag (s : State) (c : Nat) (x : Lamp) : (s.setLamp c x).jtag = s.jtag := rfl
@[simp] theorem State.setLamp_mem (s : State) (c : Nat) (x : Lamp) : (s.setLamp c x).mem = s.mem := rfl
@[simp] theorem State.setLamp_seed (s : State) (c : Nat) (x : Lamp) : (s.setLamp c x).seed = s.seed := rfl
@[simp] theorem State.setLamp_pending (s : State) (c : Nat) (x : Lamp) : (s.setLamp c x).pending = s.pending := rfl

/-! ### State.drawn -/
@[simp] theorem State.drawn_straps (s : State) : (s.drawn).straps = s.straps := rfl
@[simp] theorem State.drawn_power (s : State) : (s.drawn).power = s.power := rfl
@[simp] theorem State.drawn_tbc (s : State) : (s.drawn).tbc = s.tbc := rfl
@[simp] theorem State.drawn_sck (s : State) : (s.drawn).sck = s.sck := rfl
@[simp] theorem State.drawn_objs (s : State) : (s.drawn).objs = s.objs := rfl
@[simp] theorem State.drawn_link (s : State) : (s.drawn).link = s.link := rfl
@[simp] theorem State.drawn_queue (s : State) : (s.drawn).queue = s.queue := rfl
@[simp] theorem State.drawn_staging (s : State) : (s.drawn).staging = s.staging := rfl
@[simp] theorem State.drawn_tenants (s : State) : (s.drawn).tenants = s.tenants := rfl
@[simp] theorem State.drawn_ev (s : State) : (s.drawn).ev = s.ev := rfl
@[simp] theorem State.drawn_bank (s : State) : (s.drawn).bank = s.bank := rfl
@[simp] theorem State.drawn_xb (s : State) : (s.drawn).xb = s.xb := rfl
@[simp] theorem State.drawn_dram (s : State) : (s.drawn).dram = s.dram := rfl
@[simp] theorem State.drawn_refs (s : State) : (s.drawn).refs = s.refs := rfl
@[simp] theorem State.drawn_inputs (s : State) : (s.drawn).inputs = s.inputs := rfl
@[simp] theorem State.drawn_readers (s : State) : (s.drawn).readers = s.readers := rfl
@[simp] theorem State.drawn_outputs (s : State) : (s.drawn).outputs = s.outputs := rfl
@[simp] theorem State.drawn_audio (s : State) : (s.drawn).audio = s.audio := rfl
@[simp] theorem State.drawn_lamps (s : State) : (s.drawn).lamps = s.lamps := rfl
@[simp] theorem State.drawn_mtp (s : State) : (s.drawn).mtp = s.mtp := rfl
@[simp] theorem State.drawn_kick (s : State) : (s.drawn).kick = s.kick := rfl
@[simp] theorem State.drawn_whis (s : State) : (s.drawn).whis = s.whis := rfl
@[simp] theorem State.drawn_spans (s : State) : (s.drawn).spans = s.spans := rfl
@[simp] theorem State.drawn_cue (s : State) : (s.drawn).cue = s.cue := rfl
@[simp] theorem State.drawn_jtag (s : State) : (s.drawn).jtag = s.jtag := rfl
@[simp] theorem State.drawn_mem (s : State) : (s.drawn).mem = s.mem := rfl
@[simp] theorem State.drawn_seed (s : State) : (s.drawn).seed = s.seed + 1 := rfl
@[simp] theorem State.drawn_pending (s : State) : (s.drawn).pending = s.pending := rfl

/-! ### State.dropEntry -/
@[simp] theorem State.dropEntry_straps (s : State) (i : Nat) : (s.dropEntry i).straps = s.straps := rfl
@[simp] theorem State.dropEntry_power (s : State) (i : Nat) : (s.dropEntry i).power = s.power := rfl
@[simp] theorem State.dropEntry_tbc (s : State) (i : Nat) : (s.dropEntry i).tbc = s.tbc := rfl
@[simp] theorem State.dropEntry_sck (s : State) (i : Nat) : (s.dropEntry i).sck = s.sck := rfl
@[simp] theorem State.dropEntry_objs (s : State) (i : Nat) : (s.dropEntry i).objs = s.objs := rfl
@[simp] theorem State.dropEntry_link (s : State) (i : Nat) : (s.dropEntry i).link = s.link := rfl
@[simp] theorem State.dropEntry_queue (s : State) (i : Nat) : (s.dropEntry i).queue = s.queue.eraseIdx i := rfl
@[simp] theorem State.dropEntry_staging (s : State) (i : Nat) : (s.dropEntry i).staging = s.staging := rfl
@[simp] theorem State.dropEntry_tenants (s : State) (i : Nat) : (s.dropEntry i).tenants = s.tenants := rfl
@[simp] theorem State.dropEntry_ev (s : State) (i : Nat) : (s.dropEntry i).ev = s.ev := rfl
@[simp] theorem State.dropEntry_bank (s : State) (i : Nat) : (s.dropEntry i).bank = s.bank := rfl
@[simp] theorem State.dropEntry_xb (s : State) (i : Nat) : (s.dropEntry i).xb = s.xb := rfl
@[simp] theorem State.dropEntry_dram (s : State) (i : Nat) : (s.dropEntry i).dram = s.dram := rfl
@[simp] theorem State.dropEntry_refs (s : State) (i : Nat) : (s.dropEntry i).refs = s.refs := rfl
@[simp] theorem State.dropEntry_inputs (s : State) (i : Nat) : (s.dropEntry i).inputs = s.inputs := rfl
@[simp] theorem State.dropEntry_readers (s : State) (i : Nat) : (s.dropEntry i).readers = s.readers := rfl
@[simp] theorem State.dropEntry_outputs (s : State) (i : Nat) : (s.dropEntry i).outputs = s.outputs := rfl
@[simp] theorem State.dropEntry_audio (s : State) (i : Nat) : (s.dropEntry i).audio = s.audio := rfl
@[simp] theorem State.dropEntry_lamps (s : State) (i : Nat) : (s.dropEntry i).lamps = s.lamps := rfl
@[simp] theorem State.dropEntry_mtp (s : State) (i : Nat) : (s.dropEntry i).mtp = s.mtp := rfl
@[simp] theorem State.dropEntry_kick (s : State) (i : Nat) : (s.dropEntry i).kick = s.kick := rfl
@[simp] theorem State.dropEntry_whis (s : State) (i : Nat) : (s.dropEntry i).whis = s.whis := rfl
@[simp] theorem State.dropEntry_spans (s : State) (i : Nat) : (s.dropEntry i).spans = s.spans := rfl
@[simp] theorem State.dropEntry_cue (s : State) (i : Nat) : (s.dropEntry i).cue = s.cue := rfl
@[simp] theorem State.dropEntry_jtag (s : State) (i : Nat) : (s.dropEntry i).jtag = s.jtag := rfl
@[simp] theorem State.dropEntry_mem (s : State) (i : Nat) : (s.dropEntry i).mem = s.mem := rfl
@[simp] theorem State.dropEntry_seed (s : State) (i : Nat) : (s.dropEntry i).seed = s.seed := rfl
@[simp] theorem State.dropEntry_pending (s : State) (i : Nat) : (s.dropEntry i).pending = s.pending := rfl

/-! ### State.clock -/
@[simp] theorem State.clock_straps (s : State) (n : Nat) : (s.clock n).straps = s.straps := rfl
@[simp] theorem State.clock_power (s : State) (n : Nat) : (s.clock n).power = s.power := rfl
@[simp] theorem State.clock_tbc (s : State) (n : Nat) : (s.clock n).tbc = s.tbc := rfl
@[simp] theorem State.clock_sck (s : State) (n : Nat) : (s.clock n).sck = (s.sck + n) % 2 ^ 48 := rfl
@[simp] theorem State.clock_objs (s : State) (n : Nat) : (s.clock n).objs = s.objs := rfl
@[simp] theorem State.clock_link (s : State) (n : Nat) : (s.clock n).link = s.link := rfl
@[simp] theorem State.clock_queue (s : State) (n : Nat) : (s.clock n).queue = s.queue := rfl
@[simp] theorem State.clock_staging (s : State) (n : Nat) : (s.clock n).staging = s.staging := rfl
@[simp] theorem State.clock_tenants (s : State) (n : Nat) : (s.clock n).tenants = s.tenants := rfl
@[simp] theorem State.clock_ev (s : State) (n : Nat) : (s.clock n).ev = s.ev := rfl
@[simp] theorem State.clock_bank (s : State) (n : Nat) : (s.clock n).bank = s.bank := rfl
@[simp] theorem State.clock_xb (s : State) (n : Nat) : (s.clock n).xb = s.xb := rfl
@[simp] theorem State.clock_dram (s : State) (n : Nat) : (s.clock n).dram = s.dram := rfl
@[simp] theorem State.clock_refs (s : State) (n : Nat) : (s.clock n).refs = s.refs := rfl
@[simp] theorem State.clock_inputs (s : State) (n : Nat) : (s.clock n).inputs = s.inputs := rfl
@[simp] theorem State.clock_readers (s : State) (n : Nat) : (s.clock n).readers = s.readers := rfl
@[simp] theorem State.clock_outputs (s : State) (n : Nat) : (s.clock n).outputs = s.outputs := rfl
@[simp] theorem State.clock_audio (s : State) (n : Nat) : (s.clock n).audio = s.audio := rfl
@[simp] theorem State.clock_lamps (s : State) (n : Nat) : (s.clock n).lamps = s.lamps := rfl
@[simp] theorem State.clock_mtp (s : State) (n : Nat) : (s.clock n).mtp = s.mtp := rfl
@[simp] theorem State.clock_kick (s : State) (n : Nat) : (s.clock n).kick = s.kick := rfl
@[simp] theorem State.clock_whis (s : State) (n : Nat) : (s.clock n).whis = s.whis := rfl
@[simp] theorem State.clock_spans (s : State) (n : Nat) : (s.clock n).spans = s.spans := rfl
@[simp] theorem State.clock_cue (s : State) (n : Nat) : (s.clock n).cue = s.cue := rfl
@[simp] theorem State.clock_jtag (s : State) (n : Nat) : (s.clock n).jtag = s.jtag := rfl
@[simp] theorem State.clock_mem (s : State) (n : Nat) : (s.clock n).mem = s.mem := rfl
@[simp] theorem State.clock_seed (s : State) (n : Nat) : (s.clock n).seed = s.seed := rfl
@[simp] theorem State.clock_pending (s : State) (n : Nat) : (s.clock n).pending = s.pending := rfl

/-! ### State.release -/
@[simp] theorem State.release_straps (s : State) (e : BEntry) : (s.release e).straps = s.straps := rfl
@[simp] theorem State.release_power (s : State) (e : BEntry) : (s.release e).power = s.power := rfl
@[simp] theorem State.release_tbc (s : State) (e : BEntry) : (s.release e).tbc = s.tbc := rfl
@[simp] theorem State.release_sck (s : State) (e : BEntry) : (s.release e).sck = s.sck := rfl
@[simp] theorem State.release_objs (s : State) (e : BEntry) : (s.release e).objs = s.objs := rfl
@[simp] theorem State.release_link (s : State) (e : BEntry) : (s.release e).link = s.link := rfl
@[simp] theorem State.release_queue (s : State) (e : BEntry) : (s.release e).queue = s.queue.erase e := rfl
@[simp] theorem State.release_staging (s : State) (e : BEntry) : (s.release e).staging = s.staging := rfl
@[simp] theorem State.release_tenants (s : State) (e : BEntry) : (s.release e).tenants = s.tenants := rfl
@[simp] theorem State.release_ev (s : State) (e : BEntry) : (s.release e).ev = s.ev := rfl
@[simp] theorem State.release_bank (s : State) (e : BEntry) : (s.release e).bank = s.bank := rfl
@[simp] theorem State.release_xb (s : State) (e : BEntry) : (s.release e).xb = s.xb := rfl
@[simp] theorem State.release_dram (s : State) (e : BEntry) : (s.release e).dram = s.dram := rfl
@[simp] theorem State.release_refs (s : State) (e : BEntry) : (s.release e).refs = s.refs := rfl
@[simp] theorem State.release_inputs (s : State) (e : BEntry) : (s.release e).inputs = s.inputs := rfl
@[simp] theorem State.release_readers (s : State) (e : BEntry) : (s.release e).readers = s.readers := rfl
@[simp] theorem State.release_outputs (s : State) (e : BEntry) : (s.release e).outputs = s.outputs := rfl
@[simp] theorem State.release_audio (s : State) (e : BEntry) : (s.release e).audio = s.audio := rfl
@[simp] theorem State.release_lamps (s : State) (e : BEntry) : (s.release e).lamps = s.lamps := rfl
@[simp] theorem State.release_mtp (s : State) (e : BEntry) : (s.release e).mtp = s.mtp := rfl
@[simp] theorem State.release_kick (s : State) (e : BEntry) : (s.release e).kick = s.kick := rfl
@[simp] theorem State.release_whis (s : State) (e : BEntry) : (s.release e).whis = s.whis := rfl
@[simp] theorem State.release_spans (s : State) (e : BEntry) : (s.release e).spans = s.spans := rfl
@[simp] theorem State.release_cue (s : State) (e : BEntry) : (s.release e).cue = s.cue := rfl
@[simp] theorem State.release_jtag (s : State) (e : BEntry) : (s.release e).jtag = s.jtag := rfl
@[simp] theorem State.release_mem (s : State) (e : BEntry) : (s.release e).mem = s.mem := rfl
@[simp] theorem State.release_seed (s : State) (e : BEntry) : (s.release e).seed = s.seed := rfl
@[simp] theorem State.release_pending (s : State) (e : BEntry) : (s.release e).pending = s.pending := rfl

/-! ### State.selHigh -/
@[simp] theorem State.selHigh_straps (s : State) : (s.selHigh).straps = s.straps := rfl
@[simp] theorem State.selHigh_power (s : State) : (s.selHigh).power = s.power := rfl
@[simp] theorem State.selHigh_tbc (s : State) : (s.selHigh).tbc = s.tbc := rfl
@[simp] theorem State.selHigh_sck (s : State) : (s.selHigh).sck = s.sck := rfl
@[simp] theorem State.selHigh_objs (s : State) : (s.selHigh).objs = s.objs := rfl
@[simp] theorem State.selHigh_link (s : State) : (s.selHigh).link = { s.link with openSeen := false } := rfl
@[simp] theorem State.selHigh_queue (s : State) : (s.selHigh).queue = s.queue := rfl
@[simp] theorem State.selHigh_staging (s : State) : (s.selHigh).staging = s.staging := rfl
@[simp] theorem State.selHigh_tenants (s : State) : (s.selHigh).tenants = s.tenants := rfl
@[simp] theorem State.selHigh_ev (s : State) : (s.selHigh).ev = s.ev := rfl
@[simp] theorem State.selHigh_bank (s : State) : (s.selHigh).bank = s.bank := rfl
@[simp] theorem State.selHigh_xb (s : State) : (s.selHigh).xb = s.xb := rfl
@[simp] theorem State.selHigh_dram (s : State) : (s.selHigh).dram = s.dram := rfl
@[simp] theorem State.selHigh_refs (s : State) : (s.selHigh).refs = s.refs := rfl
@[simp] theorem State.selHigh_inputs (s : State) : (s.selHigh).inputs = s.inputs := rfl
@[simp] theorem State.selHigh_readers (s : State) : (s.selHigh).readers = s.readers := rfl
@[simp] theorem State.selHigh_outputs (s : State) : (s.selHigh).outputs = s.outputs := rfl
@[simp] theorem State.selHigh_audio (s : State) : (s.selHigh).audio = s.audio := rfl
@[simp] theorem State.selHigh_lamps (s : State) : (s.selHigh).lamps = s.lamps := rfl
@[simp] theorem State.selHigh_mtp (s : State) : (s.selHigh).mtp = s.mtp := rfl
@[simp] theorem State.selHigh_kick (s : State) : (s.selHigh).kick = s.kick := rfl
@[simp] theorem State.selHigh_whis (s : State) : (s.selHigh).whis = s.whis := rfl
@[simp] theorem State.selHigh_spans (s : State) : (s.selHigh).spans = s.spans := rfl
@[simp] theorem State.selHigh_cue (s : State) : (s.selHigh).cue = s.cue := rfl
@[simp] theorem State.selHigh_jtag (s : State) : (s.selHigh).jtag = s.jtag := rfl
@[simp] theorem State.selHigh_mem (s : State) : (s.selHigh).mem = s.mem := rfl
@[simp] theorem State.selHigh_seed (s : State) : (s.selHigh).seed = s.seed := rfl
@[simp] theorem State.selHigh_pending (s : State) : (s.selHigh).pending = s.pending := rfl
@[simp] theorem State.selHigh_mgr (s : State) : (s.selHigh).mgr = s.mgr := rfl

/-! ### State.realigned -/
@[simp] theorem State.realigned_straps (s : State) : (s.realigned).straps = s.straps := rfl
@[simp] theorem State.realigned_power (s : State) : (s.realigned).power = s.power := rfl
@[simp] theorem State.realigned_tbc (s : State) : (s.realigned).tbc = s.tbc := rfl
@[simp] theorem State.realigned_sck (s : State) : (s.realigned).sck = s.sck := rfl
@[simp] theorem State.realigned_objs (s : State) : (s.realigned).objs = s.objs := rfl
@[simp] theorem State.realigned_link (s : State) : (s.realigned).link = s.link := rfl
@[simp] theorem State.realigned_queue (s : State) : (s.realigned).queue = s.queue := rfl
@[simp] theorem State.realigned_staging (s : State) : (s.realigned).staging = s.staging := rfl
@[simp] theorem State.realigned_tenants (s : State) : (s.realigned).tenants = s.tenants := rfl
@[simp] theorem State.realigned_ev (s : State) : (s.realigned).ev = s.ev := rfl
@[simp] theorem State.realigned_bank (s : State) : (s.realigned).bank = s.bank := rfl
@[simp] theorem State.realigned_xb (s : State) : (s.realigned).xb = s.xb := rfl
@[simp] theorem State.realigned_dram (s : State) : (s.realigned).dram = s.dram := rfl
@[simp] theorem State.realigned_refs (s : State) : (s.realigned).refs = { s.refs with realign := false, buildout := 0, slip := 0 } := rfl
@[simp] theorem State.realigned_inputs (s : State) : (s.realigned).inputs = s.inputs := rfl
@[simp] theorem State.realigned_readers (s : State) : (s.realigned).readers = s.readers := rfl
@[simp] theorem State.realigned_outputs (s : State) : (s.realigned).outputs = s.outputs := rfl
@[simp] theorem State.realigned_audio (s : State) : (s.realigned).audio = s.audio := rfl
@[simp] theorem State.realigned_lamps (s : State) : (s.realigned).lamps = s.lamps := rfl
@[simp] theorem State.realigned_mtp (s : State) : (s.realigned).mtp = s.mtp := rfl
@[simp] theorem State.realigned_kick (s : State) : (s.realigned).kick = s.kick := rfl
@[simp] theorem State.realigned_whis (s : State) : (s.realigned).whis = s.whis := rfl
@[simp] theorem State.realigned_spans (s : State) : (s.realigned).spans = s.spans := rfl
@[simp] theorem State.realigned_cue (s : State) : (s.realigned).cue = s.cue := rfl
@[simp] theorem State.realigned_jtag (s : State) : (s.realigned).jtag = s.jtag := rfl
@[simp] theorem State.realigned_mem (s : State) : (s.realigned).mem = s.mem := rfl
@[simp] theorem State.realigned_seed (s : State) : (s.realigned).seed = s.seed := rfl
@[simp] theorem State.realigned_pending (s : State) : (s.realigned).pending = s.pending := rfl
@[simp] theorem State.realigned_mgr (s : State) : (s.realigned).mgr = s.mgr := rfl

end Sys2Proof.Machine
end

