-- ==== Sys2Proof/Laws/Link.lean ====
section
/-! SUPPORT. What a frame that this manager executes comes to (chapter 2): the one lemma from which the meanings of the frame
rows are read. -/
namespace Sys2Proof.Machine

@[simp] theorem State.clock_mgr (s : State) (n : Nat) : (s.clock n).mgr = s.mgr := rfl
@[simp] theorem State.clock_tenant (s : State) (n t : Nat) : (s.clock n).tenant t = s.tenant t := rfl
@[simp] theorem State.clock_getN (s : State) (n i j : Nat) : (s.clock n).getN i j = s.getN i j := rfl

@[simp] theorem State.selHigh_storm (s : State) : s.selHigh.link.storm = s.link.storm := rfl
@[simp] theorem State.selHigh_getN (s : State) (i j : Nat) : s.selHigh.getN i j = s.getN i j := rfl

/-- A list of its own length needs no padding. -/
theorem padTo_self (l : List Byte) (n : Nat) (h : l.length = n) : padTo n l = l := by
  subst h; simp [padTo, zeros]

theorem Frame_payload_self (f : Frame) : { f with payload := f.payload } = f := rfl

/-- The device that executes does so with no replay, lockout or failure count in the way. -/
theorem State.serveHere_fresh (s : State) (r : Req) (late : Nat)
    (hr : changes r.ty = true → s.link.replay ≠ some (r.echo, r.crc)) (hl : (s.tenant r.t).lock = 0) (hf : (s.tenant r.t).fails < 8) :
    s.serveHere r late = { s.doType r late with commit := fun t => ((s.doType r late).commit t).recordReplay r (s.doType r late) } := by
  have h1 : (changes r.ty && s.link.replay == some (r.echo, r.crc)) = false := by
    cases hc : changes r.ty
    · simp
    · simpa using hr hc
  have h2 : s.lockRefresh r.t = s := by
    simp [State.lockRefresh]; omega
  simp [State.serveHere, h1, h2, State.lockedOut, hl]

@[simp] theorem State.heard_mgr (s : State) (f : Frame) : (s.heard f).mgr = s.mgr := rfl
@[simp] theorem State.heard_straps (s : State) (f : Frame) : (s.heard f).straps = s.straps := rfl
@[simp] theorem State.heard_power (s : State) (f : Frame) : (s.heard f).power = s.power := rfl
@[simp] theorem State.heard_tenants (s : State) (f : Frame) : (s.heard f).tenants = s.tenants := rfl
@[simp] theorem State.heard_staging (s : State) (f : Frame) : (s.heard f).staging = s.staging := rfl
@[simp] theorem State.heard_queue (s : State) (f : Frame) : (s.heard f).queue = s.queue := rfl
@[simp] theorem State.heard_mem (s : State) (f : Frame) : (s.heard f).mem = s.mem := rfl
@[simp] theorem State.heard_tenant (s : State) (f : Frame) (t : Nat) : (s.heard f).tenant t = s.tenant t := rfl
@[simp] theorem State.heard_replay (s : State) (f : Frame) : (s.heard f).link.replay = s.link.replay := rfl

/-- A frame that this manager executes: its type is carried out on edge E and answered after the turnaround. -/
theorem State.serve_executes (s : State) (ty : Nat) (f : Frame) (late : Nat) (h : s.Executes ty f) :
    let r : Req := { ty := ty, f := f }
    let v := (s.heard f).doType r late
    s.serve ty f late none =
      respond r { v with commit := fun t => (v.commit t).recordReplay r v } (112 + 8 * f.len.toNat) (s.getN 0x1101 1) f.gap none := by
  intro r v
  obtain ⟨ht, hw, hten, hno, hty, hfr, hl, hf⟩ := h
  have hpad : ({ f with payload := padTo f.len.toNat f.payload } : Frame) = f := by
    rw [padTo_self _ _ ht.whole]
  have ha : f.mgr.toNat < 32 := by rw [ht.addressed]; exact s.straps.addr.isLt
  have h3 : step3 r false = none := by
    have h128 : bitAt f.ten.toNat 7 = false := by
      have : f.ten.toNat >>> 7 = 0 := by rw [Nat.shiftRight_eq_div_pow]; omega
      simp [bitAt, this]
    have hob : ¬ (objectless ty = true ∧ (f.index.toNat ≠ 0 ∨ f.sub.toNat ≠ 0)) := by
      rintro ⟨ho, hx⟩
      obtain ⟨a, b⟩ := hno ho
      simp [a, b] at hx
    have hne15 : ty ≠ 15 := by omega
    simp [step3, r, Req.idx, Req.sub, hw, h128, hne15]
    simpa using hob
  have hs : ¬ (s.power.held = true ∨ (!s.mgr) = true) := by simp [ht.released, ht.manager]
  have h63 : (f.mgr.toNat == 0x3F) = false := by simp; omega
  have hne : (f.mgr == 0x3F#8) = false := by
    simp; intro e; rw [e] at ha; simp at ha
  have hsl : s.link.storm = false := ht.storm
  have hlong : ¬ 4096 < f.len.toNat := by have := ht.short; omega
  have key : ((s.selHigh.clock (112 + 8 * f.len.toNat)).crcOk true).serveFrame r late
      = { v with commit := fun t => (v.commit t).recordReplay r v } := by
    have hh : (s.selHigh.clock (112 + 8 * f.len.toNat)).crcOk true = s.heard f := rfl
    rw [hh]
    have h0 : (f.wrk.toNat = 0) := by simp [hw]
    simp only [State.serveFrame, r, hne]
    simp only [r] at h3
    simp only [h3, h0, if_true]
    exact State.serveHere_fresh _ _ _ (fun hc => by simpa [Req.echo, Req.crc] using hfr hc) (by simpa [Req.t, Nat.mod_eq_of_lt hten] using hl) (by simpa [Req.t, Nat.mod_eq_of_lt hten] using hf)
  have h255 : (f.wrk == 0xFF#8) = false := by simp [hw]
  simp only [State.serve, if_neg hs, hpad, h63, hlong, decide_false, Bool.false_eq_true, if_false]
  simp only [State.clock_link, State.clock_getN, h255]
  simp [ht.crc, ht.addressed, ht.linkmode, hsl, key, r, v, Nat.not_le.mpr (ht.addressed ▸ ha)]

/-- An executed frame with a plain verdict: what the exchange leaves. -/
theorem State.serve_answered (s : State) (ty : Nat) (f : Frame) (late : Nat) (h : s.Executes ty f) (v : Verdict)
    (hv : (s.heard f).doType { ty := ty, f := f } late = v) (hfull : v.full = false)
    (hT : v.st.getN 0x1101 1 = s.getN 0x1101 1) :
    s.serve ty f late none =
      v.st.answered f v.status (v.echo.getD (echoOf ty f)) v.payload (fun t => (v.commit t).recordReplay { ty := ty, f := f } v) := by
  have := State.serve_executes s ty f late h
  simp only [hv] at this
  rw [this]
  simp [respond, State.answered, hfull, hT, Req.echo, echoOf]

end Sys2Proof.Machine
end

