-- ==== Sys2Proof/Laws/Table.lean ====
section
/-! SUPPORT. The laws of sparse tables: what a write reads back, what it leaves alone, and that every write keeps the canonical
form. -/
namespace Sys2Proof.Machine

variable {α : Type}

theorem tabGet_erase_same (d : α) (t : Tab α) (k : Nat) : tabGet d (tabErase k t) k = d := by
  induction t with
  | nil => rfl
  | cons p t ih =>
    obtain ⟨i, v⟩ := p
    by_cases h : k = i
    · simp [tabErase, h] at ih ⊢; exact ih
    · simp [tabErase, tabGet, h, ih]

theorem tabGet_erase_other (d : α) (t : Tab α) (k j : Nat) (h : j ≠ k) : tabGet d (tabErase k t) j = tabGet d t j := by
  induction t with
  | nil => rfl
  | cons p t ih =>
    obtain ⟨i, v⟩ := p
    by_cases hk : k = i
    · subst hk; simp [tabErase, tabGet, h, ih]
    · simp [tabErase, tabGet, hk, ih]

theorem tabGet_insert_same (d : α) (t : Tab α) (k : Nat) (v : α) (h : ∀ p ∈ t, p.1 ≠ k) : tabGet d (tabInsert k v t) k = v := by
  induction t with
  | nil => simp [tabInsert, tabGet]
  | cons p t ih =>
    obtain ⟨i, w⟩ := p
    have hi : i ≠ k := h (i, w) List.mem_cons_self
    by_cases hk : k < i
    · simp [tabInsert, tabGet, hk]
    · simp [tabInsert, tabGet, hk, Ne.symm hi, ih (fun p hp => h p (List.mem_cons_of_mem _ hp))]

theorem tabGet_insert_other (d : α) (t : Tab α) (k j : Nat) (v : α) (h : j ≠ k) : tabGet d (tabInsert k v t) j = tabGet d t j := by
  induction t with
  | nil => simp [tabInsert, tabGet, h]
  | cons p t ih =>
    obtain ⟨i, w⟩ := p
    by_cases hk : k < i
    · simp [tabInsert, tabGet, hk, h]
    · simp [tabInsert, tabGet, hk, ih]

theorem not_mem_tabErase (t : Tab α) (k : Nat) : ∀ p ∈ tabErase k t, p.1 ≠ k := by
  induction t with
  | nil => simp [tabErase]
  | cons q t ih =>
    obtain ⟨i, v⟩ := q
    by_cases h : k = i
    · subst h; intro p hp; exact ih p (by simpa [tabErase] using hp)
    · intro p hp
      simp [tabErase, h] at hp
      rcases hp with rfl | hp
      · exact fun e => h e.symm
      · exact ih p hp

variable [DecidableEq α]

/-- Read after write. -/
@[simp] theorem tabGet_set_same (d : α) (t : Tab α) (k : Nat) (v : α) : tabGet d (tabSet d t k v) k = v := by
  unfold tabSet
  split
  · rename_i h; rw [h]; exact tabGet_erase_same d t k
  · exact tabGet_insert_same d _ k v (not_mem_tabErase t k)

/-- A write leaves every other key alone. -/
@[simp] theorem tabGet_set_other (d : α) (t : Tab α) (k j : Nat) (v : α) (h : j ≠ k) : tabGet d (tabSet d t k v) j = tabGet d t j := by
  unfold tabSet
  split
  · exact tabGet_erase_other d t k j h
  · rw [tabGet_insert_other d _ k j v h, tabGet_erase_other d t k j h]

theorem tabGet_set (d : α) (t : Tab α) (k j : Nat) (v : α) : tabGet d (tabSet d t k v) j = if j = k then v else tabGet d t j := by
  split
  · rename_i h; rw [h, tabGet_set_same]
  · rename_i h; exact tabGet_set_other d t k j v h

/-! ## The canonical form -/

/-- Keys all above `b`, strictly rising, no default listed. -/
def Tab.above (d : α) : Nat → Tab α → Bool
  | _, [] => true
  | b, (i, v) :: t => decide (b ≤ i) && decide (v ≠ d) && Tab.above d (i + 1) t

theorem Tab.wf_eq_above (d : α) (t : Tab α) : Tab.wf d t = Tab.above d 0 t := by
  have key : ∀ (t : Tab α) (i : Nat) (v : α), Tab.wf d ((i, v) :: t) = (decide (v ≠ d) && Tab.above d (i + 1) t) := by
    intro t
    induction t with
    | nil => intro i v; simp [Tab.wf, Tab.above]
    | cons q t ih =>
      intro i v
      obtain ⟨j, w⟩ := q
      rw [Tab.wf, ih j w, Tab.above]
      simp only [Nat.lt_iff_add_one_le]
      cases decide (i + 1 ≤ j) <;> cases decide (v ≠ d) <;> simp
  cases t with
  | nil => rfl
  | cons p t => obtain ⟨i, v⟩ := p; rw [key t i v, Tab.above]; simp

theorem Tab.above_mono (d : α) {a b : Nat} (h : a ≤ b) (t : Tab α) (hb : Tab.above d b t = true) : Tab.above d a t = true := by
  cases t with
  | nil => rfl
  | cons p t =>
    obtain ⟨i, v⟩ := p
    simp [Tab.above] at hb ⊢
    exact ⟨⟨by omega, hb.1.2⟩, hb.2⟩

theorem Tab.above_erase (d : α) (t : Tab α) (k : Nat) : ∀ b, Tab.above d b t = true → Tab.above d b (tabErase k t) = true := by
  induction t with
  | nil => intro b h; exact h
  | cons p t ih =>
    obtain ⟨i, v⟩ := p
    intro b h
    simp [Tab.above] at h
    by_cases hk : k = i
    · simp [tabErase, hk]
      exact hk ▸ ih b (Tab.above_mono d (by omega) t h.2)
    · simp [tabErase, hk, Tab.above, h.1.1, h.1.2, ih _ h.2]

theorem Tab.above_insert (d : α) (t : Tab α) (k : Nat) (v : α) (hv : v ≠ d) :
    ∀ b, b ≤ k → (∀ p ∈ t, p.1 ≠ k) → Tab.above d b t = true → Tab.above d b (tabInsert k v t) = true := by
  induction t with
  | nil => intro b hb _ _; simp [tabInsert, Tab.above, hb, hv]
  | cons p t ih =>
    obtain ⟨i, w⟩ := p
    intro b hb hn h
    simp [Tab.above] at h
    have hi : i ≠ k := hn (i, w) List.mem_cons_self
    by_cases hk : k < i
    · simp [tabInsert, hk, Tab.above, hb, hv, h.1.2, h.2] <;> omega
    · simp [tabInsert, hk, Tab.above, h.1.1, h.1.2]
      exact ih (i + 1) (by omega) (fun p hp => hn p (List.mem_cons_of_mem _ hp)) h.2

/-- Every write keeps the canonical form. -/
theorem Tab.wf_set (d : α) (t : Tab α) (k : Nat) (v : α) (h : Tab.wf d t = true) : Tab.wf d (tabSet d t k v) = true := by
  rw [Tab.wf_eq_above] at h ⊢
  unfold tabSet
  split
  · exact Tab.above_erase d t k 0 h
  · rename_i hv
    exact Tab.above_insert d _ k v hv 0 (Nat.zero_le k) (not_mem_tabErase t k) (Tab.above_erase d t k 0 h)

/-- Removing pairs keeps the canonical form. -/
theorem Tab.wf_filter (d : α) (t : Tab α) (p : Nat × α → Bool) (h : Tab.wf d t = true) : Tab.wf d (t.filter p) = true := by
  rw [Tab.wf_eq_above] at h ⊢
  have key : ∀ (t : Tab α) b, Tab.above d b t = true → Tab.above d b (t.filter p) = true := by
    intro t
    induction t with
    | nil => intro b h; exact h
    | cons q t ih =>
      obtain ⟨i, v⟩ := q
      intro b h
      simp [Tab.above] at h
      by_cases hp : p (i, v) = true
      · simp [List.filter, hp, Tab.above, h.1.1, h.1.2, ih _ h.2]
      · simp only [List.filter, hp]
        exact ih b (Tab.above_mono d (by omega) t h.2)
  exact key t 0 h

end Sys2Proof.Machine
end

