-- ==== Sys2Proof/Laws/Memory.lean ====
section
/-! SUPPORT. The laws of memory: read after write, what a write leaves alone, and that every memory operation keeps the canonical
form. -/
namespace Sys2Proof.Machine

@[simp] theorem memByte_put_same (m : List Host.Cell) (a : Nat) (b : Byte) : memByte (memPut m a b) a = b :=
  tabGet_set_same 0#8 m a b

@[simp] theorem memByte_put_other (m : List Host.Cell) (a j : Nat) (b : Byte) (h : j ≠ a) : memByte (memPut m a b) j = memByte m j :=
  tabGet_set_other 0#8 m a j b h

/-- A write leaves every byte outside it alone. -/
theorem memByte_write_outside (l : List Byte) : ∀ (m : List Host.Cell) (a j : Nat), (j < a ∨ a + l.length ≤ j) →
    memByte (memWrite m a l) j = memByte m j := by
  induction l with
  | nil => intro m a j _; rfl
  | cons b l ih =>
    intro m a j h
    simp only [List.length_cons] at h
    rw [memWrite, ih _ _ _ (by omega), memByte_put_other _ _ _ _ (by omega)]

/-- A write stores each of its bytes. -/
theorem memByte_write_inside (l : List Byte) : ∀ (m : List Host.Cell) (a i : Nat), i < l.length →
    memByte (memWrite m a l) (a + i) = l.getD i 0#8 := by
  induction l with
  | nil => intro m a i h; simp at h
  | cons b l ih =>
    intro m a i h
    rw [memWrite]
    cases i with
    | zero => rw [memByte_write_outside _ _ _ _ (by omega)]; simp
    | succ i =>
      have := ih (memPut m a b) (a + 1) i (by simpa using h)
      rw [show a + (i + 1) = a + 1 + i by omega, this]; simp

/-- What was written reads back. -/
theorem memRead_write (l : List Byte) : ∀ (m : List Host.Cell) (a : Nat), memRead (memWrite m a l) a l.length = l := by
  induction l with
  | nil => intro m a; rfl
  | cons b l ih =>
    intro m a
    rw [List.length_cons, memRead, memWrite, ih, memByte_write_outside _ _ _ _ (by omega)]; simp

theorem Memory.wf_put (m : List Host.Cell) (a : Nat) (b : Byte) (h : Memory.wf m = true) : Memory.wf (memPut m a b) = true :=
  Tab.wf_set 0#8 m a b h

theorem Memory.wf_write (l : List Byte) : ∀ (m : List Host.Cell) (a : Nat), Memory.wf m = true → Memory.wf (memWrite m a l) = true := by
  induction l with
  | nil => intro m a h; exact h
  | cons b l ih => intro m a h; exact ih _ _ (Memory.wf_put m a b h)

theorem Memory.wf_filter (m : List Host.Cell) (p : Host.Cell → Bool) (h : Memory.wf m = true) : Memory.wf (m.filter p) = true :=
  Tab.wf_filter 0#8 m p h

theorem Memory.wf_erase (m : List Host.Cell) (a n : Nat) (h : Memory.wf m = true) : Memory.wf (memErase m a n) = true :=
  Memory.wf_filter m _ h

/-- Memory after reset lists nothing. -/
theorem Memory.wf_reset : Memory.wf State.reset.mem = true := rfl

end Sys2Proof.Machine
end

