-- ==== Sys2Proof/Laws/Objects.lean ====
section
/-! SUPPORT. Reading an object after writing one (R13, R64): the written object reads its new value, every other its old one. -/
namespace Sys2Proof.Machine

theorem objKey_inj {i j k l : Nat} (hj : j < 256) (hl : l < 256) (h : objKey i j = objKey k l) : i = k ∧ j = l := by
  simp [objKey] at h; omega

@[simp] theorem State.getV_setV (s : State) (i j : Nat) (v : Val) : (s.setV i j v).getV i j = v := by
  show tabGet (dfltVal s.mgr i j) (tabSet (dfltVal s.mgr i j) s.objs (objKey i j) v) (objKey i j) = v
  exact tabGet_set_same _ _ _ _

theorem State.getV_setV_other (s : State) (i j k l : Nat) (v : Val) (h : objKey k l ≠ objKey i j) :
    (s.setV i j v).getV k l = s.getV k l := by
  show tabGet (dfltVal s.mgr k l) (tabSet (dfltVal s.mgr i j) s.objs (objKey i j) v) (objKey k l) = _
  unfold tabSet
  split
  · exact tabGet_erase_other _ _ _ _ h
  · rw [tabGet_insert_other _ _ _ _ _ h]; exact tabGet_erase_other _ _ _ _ h

@[simp] theorem State.getN_setN (s : State) (i j v : Nat) : (s.setN i j v).getN i j = v := by
  simp [State.getN, State.setN, Val.nat]

theorem State.getN_setN_other (s : State) (i j k l v : Nat) (h : objKey k l ≠ objKey i j) : (s.setN i j v).getN k l = s.getN k l := by
  simp [State.getN, State.setN, State.getV_setV_other _ _ _ _ _ _ h]

theorem State.getN_count_other (s : State) (i j k l : Nat) (h : objKey k l ≠ objKey i j) : (s.count i j).getN k l = s.getN k l := by
  simp [State.count, State.addN, State.getN_setN_other _ _ _ _ _ _ h]

/-- Edge E of a frame leaves every object but DZ_FRAMES_OK as it is. -/
theorem State.heard_getN (s : State) (f : Frame) (k l : Nat) (h : objKey k l ≠ objKey 0x1102 1) : (s.heard f).getN k l = s.getN k l := by
  show ((s.clock (112 + 8 * f.len.toNat)).count 0x1102 1).getN k l = _
  rw [State.getN_count_other _ _ _ _ _ h]; rfl

@[simp] theorem State.heard_turnaround (s : State) (f : Frame) : (s.heard f).getN 0x1101 1 = s.getN 0x1101 1 :=
  State.heard_getN _ _ _ _ (by simp [objKey])

/-- The object that a search of an index finds is that index's. -/
theorem findSub_place {r : Row} {i j : Nat} {o : Obj} (h : findSub r i j = some o) : o.idx = i ∧ o.sub = j := by
  unfold findSub at h
  dsimp only at h
  cases hn : r.entries (i - r.base) with
  | none =>
    rw [hn] at h
    dsimp only at h
    split at h
    · cases hs : r.subs.head? with
      | none => simp [hs] at h
      | some d => simp [hs] at h; subst h; simp_all
    · simp at h
  | some n =>
    rw [hn] at h
    dsimp only at h
    split at h
    · simp at h; subst h; simp_all
    · split at h
      · simp at h
      · simp at h
        obtain ⟨d, -, rfl⟩ := h
        simp

theorem State.findOr_some {s : State} {i j : Nat} {o : Obj} (h : s.findOr i j = .inr o) : findObj s.mgr i j = some o ∧ o.idx = i ∧ o.sub = j := by
  unfold State.findOr at h
  cases hr : findRow s.mgr i with
  | none => simp [hr] at h
  | some r =>
    cases hx : findSub r i j with
    | none => simp [hr, hx] at h
    | some x =>
      simp [hr, hx] at h; subst h
      exact ⟨by simp [findObj, hr, hx], findSub_place hx⟩

theorem State.findOr_of_findObj {s : State} {i j : Nat} {o : Obj} (h : findObj s.mgr i j = some o) : s.findOr i j = .inr o := by
  unfold findObj at h
  cases hr : findRow s.mgr i with
  | none => simp [hr] at h
  | some r => simp [hr] at h; simp [State.findOr, hr, h]

/-- A WRITE that passes its checks addresses the object its frame names. -/
theorem State.MayWrite.object {s : State} {f : Frame} {o : Obj} (h : s.MayWrite f o) :
    findObj s.mgr f.index.toNat f.sub.toNat = some o ∧ o.idx = f.index.toNat ∧ o.sub = f.sub.toNat := by
  unfold State.MayWrite State.writeCheck at h
  split at h
  · simp at h
  · split at h
    · simp at h
    · rename_i x hx
      dsimp only at h
      split at h
      · simp at h; subst h; exact State.findOr_some hx
      · simp at h

end Sys2Proof.Machine
end

