-- ==== Sys2Proof/WellFormed.lean ====
section
/-! DEFINITION. Well-formed commands: operands that have the shape their row gives them. The meanings are total and do not
depend on it. -/
namespace Sys2Proof

/-- A frame carries as many payload bytes as its length field says, up to 4096 (chapter 2, Frame layout); beyond that the rest
of the frame is ignored (R71). -/
def Frame.wf (f : Frame) : Bool := decide (4096 < f.len.toNat) || f.payload.length == f.len.toNat

/-- A transaction moves the bytes of 1 to 16 beats and crosses no 4 KiB border; a write carries its bytes (R393). -/
def XOp.wf (x : XOp) : Bool :=
  decide (0 < x.len) && decide (x.addr.toNat % 32 + x.len ≤ 512) && decide (x.addr.toNat % 4096 + x.len ≤ 4096) &&
  (!x.wr || x.data.length == x.len) && (x.lack == 0 || x.others != 0)

/-- A march names at most four columns (R375). -/
def March.wf (m : March) : Bool := decide (m.cols.length ≤ 4) && (m.fails == decide (0 < m.count))

/-- A measured frame has an area, lines and a period (R212). -/
def FrameMeas.wf (m : FrameMeas) : Bool := decide (0 < m.w) && decide (0 < m.h) && decide (0 < m.period) && decide (m.h ≤ m.lines) && decide (m.w ≤ m.pixels)

def measWf : Option FrameMeas → Bool
  | some m => m.wf
  | none => true

/-- Samples have 6 to 12 bits (R218), and three planes of as many rows. -/
def Raw.wf (r : Raw) : Bool := [6, 8, 10, 12].contains r.bits && r.c0.length == r.c1.length && r.c0.length == r.c2.length

/-- An RGB signal names no matrix (R219). -/
def Colour.wf (c : Colour) : Bool := !c.rgb || c.mat.isNone

def overrideWf : Option Colour → Bool
  | some c => c.wf
  | none => true

/-- A sink has 1, 2 or 4 lanes, and EDID blocks of 128 bytes (R273). -/
def SinkCaps.wf (c : SinkCaps) : Bool := [1, 2, 4].contains c.lanes && c.edid.length % 128 == 0

/-- A mirrored value has 1 to 8 bytes (R172). -/
def valWf (l : List Byte) : Bool := decide (1 ≤ l.length) && decide (l.length ≤ 8)

def TunnelItem.wf : TunnelItem → Bool
  | .lock => true
  | .loss => true
  | .frameStart _ main override => main.wf && overrideWf override
  | .frameEnd _ meas raw => measWf meas && raw.wf
  | .audio _ samples _ => samples.length == 16
  | .lost n => decide (0 < n)
  | .pathDown => true
  | .pathUp _ => true

/-- Parts that the device has: 48 outputs, 64 inputs real and virtual, 4 span ports of 8 slots. -/
def Part.wf : Part → Bool
  | .device => true
  | .lamps => true
  | .audio => true
  | .output n => decide (n < 48)
  | .input n => decide (n < 64)
  | .tunnel p slot _ _ _ => decide (p < 4) && decide (slot < 8)

/-- Well-formed commands. -/
def Instr.wf (i : Instr) : Bool :=
  match i with
  | .nopPoll f => f.wf
  | .candidateMeasure _ _ _ => true
  | .referenceLoss _ _ => true
  | .selectorEvaluate _ _ _ => true
  | .realignmentDone _ => true
  | .ppsEdge _ _ => true
  | .referenceFramePulse _ _ _ => true
  | .crossbarTransaction x _ => x.wf
  | .lockBreak _ => true
  | .classCPromotion _ _ _ => true
  | .scrubRead _ _ => true
  | .bankPowerReady _ => true
  | .marchSchedule _ => true
  | .preservingTestPhaseDone r _ => r.wf
  | .dramRefresh _ _ => true
  | .mr4Poll _ _ _ => true
  | .dramPatrolRead _ _ _ => true
  | .dramTrainingDone codes densities => codes.length == 4 && densities.length == 4
  | .inputSignalLock _ _ _ => true
  | .inputFrameStart _ _ main override _ => main.wf && overrideWf override
  | .inputFrameComplete _ _ meas raw _ => measWf meas && raw.wf
  | .inputSignalLoss _ _ => true
  | .holdExpiry _ => true
  | .writerStarved _ _ => true
  | .readerSelect _ _ => true
  | .auxRequest _ _ => true
  | .edidHpdPulseEnd _ => true
  | .segmentTransmit _ y tx _ _ => decide (y < 4320) && decide (tx < 120)
  | .audioSampleFrameArrival _ form samples _ _ => samples.length == 16 && form.groups.length == 4 && form.groups.all (fun c => decide (c ≤ 11))
  | .matrixSamplePeriod => true
  | .sapFrameReceived _ slots _ _ _ => decide (slots.length ≤ 16)
  | .sapTxFrame _ _ _ => true
  | .sapClockAbsent _ _ _ => true
  | .nonaudioHoldExpiry _ _ => true
  | .asrcLock _ _ _ => true
  | .rateMeasure _ _ _ _ => true
  | .audioRingTransfer _ _ _ => true
  | .outputFrameStart _ => true
  | .hpdPlug _ sink _ => sink.wf
  | .hpdUnplug _ _ => true
  | .irqHpd _ _ _ => true
  | .linkTrainingDone _ _ panel _ => panel.wf
  | .trainRetryTimer _ => true
  | .zoneStatsPublish _ _ => true
  | .lampTick meas => meas.length == 48
  | .budgetRiseApply _ => true
  | .pwmPeriodStart _ _ _ => true
  | .openRetryBurst _ _ => true
  | .shortRetest _ _ => true
  | .verifyAgeExpiry _ => true
  | .thermistorSample codes _ _ => codes.length == 8
  | .lampGateWatchdog _ _ => true
  | .neighbourTest _ _ => true
  | .read f => f.wf
  | .write f => f.wf
  | .blockRead f => f.wf
  | .blockWrite f => f.wf
  | .prepare f => f.wf
  | .kickoff f => f.wf
  | .whistle f => f.wf
  | .sessionOpen f => f.wf
  | .sessionClose f => f.wf
  | .rollCall f => f.wf
  | .logRead f => f.wf
  | .eventAck f _ => f.wf
  | .save f => f.wf
  | .discard f => f.wf
  | .reservedTypeFrame f => f.wf
  | .dzSelEarlyRise _ f _ => f.wf
  | .crcStormExit => true
  | .frameOpenWatchdog _ _ => true
  | .bridgeComplete _ => true
  | .koAbandon f => f.wf
  | .koEpochWrite f => f.wf
  | .whEpochWrite f => f.wf
  | .stSaveNow f => f.wf
  | .stEraseImage f => f.wf
  | .mtpSaveDone _ _ _ => true
  | .subActionAdd f => f.wf
  | .subActionRemove f => f.wf
  | .tnCodeHi _ f => f.wf
  | .tnCodeLo _ f => f.wf
  | .tnEnableWrite _ f => f.wf
  | .lockoutExpiry _ => true
  | .pwStandby f => f.wf
  | .standbyEntry _ => true
  | .pwWake f => f.wf
  | .spanEnergyWake _ => true
  | .pwDpReset f => f.wf
  | .cxControlStart _ f => f.wf
  | .cxControlHalt _ f => f.wf
  | .cxControlStep _ f => f.wf
  | .mtRunNow f => f.wf
  | .mrProgram f => f.wf
  | .mrProgramDone _ _ => true
  | .lwNeighbourTest f => f.wf
  | .arPlayStart _ f => f.wf
  | .arPlayStop _ f => f.wf
  | .outForceSafe _ f => f.wf
  | .wdHostSWrite f => f.wf
  | .hostSilenceWatchdog => true
  | .prepareResult _ _ => true
  | .devicePrepare _ _ => true
  | .kickoffApplyPoint part => part.wf
  | .whistleApplyPoint part => part.wf
  | .spanLinkUp _ _ _ => true
  | .linkDown _ _ _ => true
  | .idle _ => true
  | .align _ _ _ => true
  | .tsync _ _ _ _ _ => true
  | .delayReq _ _ _ _ => true
  | .delayRsp _ _ _ => true
  | .timeExchangeTick _ _ => true
  | .credit _ _ _ _ _ => true
  | .spanPacket _ k _ => decide (k.ch.toNat < 16)
  | .reliableResendTimeout _ _ _ => true
  | .hello _ _ _ => true
  | .helloTick _ => true
  | .joinReq _ _ _ _ _ _ => true
  | .joinGrant _ _ _ _ _ _ _ _ => true
  | .joinRefuse _ _ _ _ _ _ => true
  | .joinRetryTimer _ => true
  | .leave _ _ _ _ => true
  | .roll _ _ _ => true
  | .rollRsp _ _ entry _ => entry.length == 16
  | .rollCallTimer _ => true
  | .rollCallTimeout _ => true
  | .subAdd _ _ _ => true
  | .subDel _ _ _ => true
  | .subRsp _ _ _ _ => true
  | .subscriptionPush _ _ _ _ => true
  | .push _ _ _ val _ => valWf val
  | .evict _ _ _ val _ _ => valWf val
  | .evictAck _ _ _ => true
  | .mirrorSnoopTimer _ => true
  | .snoop _ _ _ _ => true
  | .snoopRsp _ _ _ _ _ val _ => valWf val
  | .relayedFrame _ f => f.wf
  | .agentFrame _ _ => true
  | .tunnelPacket _ item _ => item.wf
  | .cueBoot => true
  | .add _ _ _ _ => true
  | .sub _ _ _ _ => true
  | .and _ _ _ _ => true
  | .or _ _ _ _ => true
  | .xor _ _ _ _ => true
  | .shl _ _ _ _ => true
  | .shr _ _ _ _ => true
  | .sra _ _ _ _ => true
  | .mul _ _ _ _ => true
  | .sltu _ _ _ _ => true
  | .slt _ _ _ _ => true
  | .addi _ _ _ _ => true
  | .andi _ _ _ _ => true
  | .ori _ _ _ _ => true
  | .xori _ _ _ _ => true
  | .shli _ _ _ _ => true
  | .shri _ _ _ _ => true
  | .srai _ _ _ _ => true
  | .sltiu _ _ _ _ => true
  | .slti _ _ _ _ => true
  | .movk _ _ _ _ => true
  | .lb _ _ _ _ => true
  | .lh _ _ _ _ => true
  | .lw _ _ _ _ => true
  | .ld _ _ _ _ => true
  | .sb _ _ _ _ => true
  | .sh _ _ _ _ => true
  | .sw _ _ _ _ => true
  | .sd _ _ _ _ => true
  | .xchg _ _ _ _ _ => true
  | .beq _ _ _ _ => true
  | .bne _ _ _ _ => true
  | .blt _ _ _ _ => true
  | .bge _ _ _ _ => true
  | .bltu _ _ _ _ => true
  | .bgeu _ _ _ _ => true
  | .jal _ _ _ => true
  | .jalr _ _ _ _ => true
  | .tbc _ _ => true
  | .waitt _ _ => true
  | .waittDone _ => true
  | .waitf _ _ _ => true
  | .waitfDone _ => true
  | .sig _ _ _ => true
  | .waits _ _ _ => true
  | .waitsDone _ => true
  | .gets _ _ => true
  | .drd _ _ _ => true
  | .dwr _ _ _ => true
  | .cuePortComplete _ _ => true
  | .prep _ => true
  | .kick _ _ => true
  | .whis _ _ => true
  | .kwait _ _ _ => true
  | .kwaitDone _ => true
  | .blit _ _ => true
  | .blitExecute _ _ => true
  | .bwait _ => true
  | .bwaitDone _ => true
  | .play _ _ _ => true
  | .post _ _ => true
  | .nop _ => true
  | .halt _ => true
  | .illegalInstruction _ _ => true
  | .cueMemoryResponse _ _ => true
  | .powerOnReset => true
  | .porRelease _ => true
  | .railGroupGood _ _ => true
  | .startDieHoldRelease _ => true
  | .dataPlaneStart info => info.fails.all (fun f => f.2.wf)
  | .enableInstant _ => true
  | .railFault _ _ => true
  | .railFaultRestart => true
  | .xoLoss _ => true
  | .xoRestart => true
  | .thermalWarning _ _ => true
  | .thermalTrip _ _ => true
  | .thermalRestart _ => true
  | .thermalWarningClear _ _ => true
  | .badSyncFrame first8 _ => first8 != 0x7E#8
  | .badControlBlock _ _ _ _ => true
  | .alignInterval _ => true
  | .creditInterval _ => true
  | .jtagTckEdge _ _ pins => pins.length == 172
  | .trstNAssert => true

end Sys2Proof
end

