-- ==== Sys2Proof/Laws/PerInstr.lean ====
section
/-! SUPPORT. A statement about every command as syntax, one lemma per constructor: the frame that a well-formed command carries
holds as many payload bytes as its length field says (chapter 2, Frame layout). -/
namespace Sys2Proof.Laws.FrameCases
open Sys2Proof

/-- The frame that a command carries. -/
def frameOf (i : Instr) : Option Frame :=
  match i with
  | .nopPoll f => some f
  | .read f => some f
  | .write f => some f
  | .blockRead f => some f
  | .blockWrite f => some f
  | .prepare f => some f
  | .kickoff f => some f
  | .whistle f => some f
  | .sessionOpen f => some f
  | .sessionClose f => some f
  | .rollCall f => some f
  | .logRead f => some f
  | .eventAck f _ => some f
  | .save f => some f
  | .discard f => some f
  | .reservedTypeFrame f => some f
  | .dzSelEarlyRise _ f _ => some f
  | .koAbandon f => some f
  | .koEpochWrite f => some f
  | .whEpochWrite f => some f
  | .stSaveNow f => some f
  | .stEraseImage f => some f
  | .subActionAdd f => some f
  | .subActionRemove f => some f
  | .tnCodeHi _ f => some f
  | .tnCodeLo _ f => some f
  | .tnEnableWrite _ f => some f
  | .pwStandby f => some f
  | .pwWake f => some f
  | .pwDpReset f => some f
  | .cxControlStart _ f => some f
  | .cxControlHalt _ f => some f
  | .cxControlStep _ f => some f
  | .mtRunNow f => some f
  | .mrProgram f => some f
  | .lwNeighbourTest f => some f
  | .arPlayStart _ f => some f
  | .arPlayStop _ f => some f
  | .outForceSafe _ f => some f
  | .wdHostSWrite f => some f
  | .relayedFrame _ f => some f
  | _ => none

/-- The frame of a well-formed command, where its length is legal, is whole. -/
def Statement (i : Instr) : Prop :=
  i.wf = true → ∀ f, frameOf i = some f → f.len.toNat ≤ 4096 → f.payload.length = f.len.toNat

theorem whole_of_wf {f : Frame} (h : f.wf = true) (l : f.len.toNat ≤ 4096) : f.payload.length = f.len.toNat := by
  simp only [Frame.wf, Bool.or_eq_true, decide_eq_true_eq, beq_iff_eq] at h
  omega

theorem nopPoll (f : Frame) : Statement (.nopPoll f) := fun h _ e l => by cases e; exact whole_of_wf h l
theorem candidateMeasure (k : Fin 8) (m : CandMeas) (at_ : Nat) : Statement (.candidateMeasure k m at_) := fun _ _ e => nomatch e
theorem referenceLoss (k : Fin 8) (at_ : Nat) : Statement (.referenceLoss k at_) := fun _ _ e => nomatch e
theorem selectorEvaluate (phaseNs buildoutNs : Int) (at_ : Nat) : Statement (.selectorEvaluate phaseNs buildoutNs at_) := fun _ _ e => nomatch e
theorem realignmentDone (at_ : Nat) : Statement (.realignmentDone at_) := fun _ _ e => nomatch e
theorem ppsEdge (passing : Bool) (at_ : Nat) : Statement (.ppsEdge passing at_) := fun _ _ e => nomatch e
theorem referenceFramePulse (k : Fin 8) (fmt : BitVec 32) (at_ : Nat) : Statement (.referenceFramePulse k fmt at_) := fun _ _ e => nomatch e
theorem crossbarTransaction (x : XOp) (at_ : Nat) : Statement (.crossbarTransaction x at_) := fun _ _ e => nomatch e
theorem lockBreak (at_ : Nat) : Statement (.lockBreak at_) := fun _ _ e => nomatch e
theorem classCPromotion (m : Fin 20) (t : Fin 14) (at_ : Nat) : Statement (.classCPromotion m t at_) := fun _ _ e => nomatch e
theorem scrubRead (upset : Option Bool) (at_ : Nat) : Statement (.scrubRead upset at_) := fun _ _ e => nomatch e
theorem bankPowerReady (p : Fin 528) : Statement (.bankPowerReady p) := fun _ _ e => nomatch e
theorem marchSchedule (at_ : Nat) : Statement (.marchSchedule at_) := fun _ _ e => nomatch e
theorem preservingTestPhaseDone (r : PhaseEnd) (at_ : Nat) : Statement (.preservingTestPhaseDone r at_) := fun _ _ e => nomatch e
theorem dramRefresh (c : Fin 4) (classA : Bool) : Statement (.dramRefresh c classA) := fun _ _ e => nomatch e
theorem mr4Poll (c : Fin 4) (rate : BitVec 5) (hot : Bool) : Statement (.mr4Poll c rate hot) := fun _ _ e => nomatch e
theorem dramPatrolRead (c : Fin 4) (upset : Option Bool) (at_ : Nat) : Statement (.dramPatrolRead c upset at_) := fun _ _ e => nomatch e
theorem dramTrainingDone (codes : List (Fin 6)) (densities : List Nat) : Statement (.dramTrainingDone codes densities) := fun _ _ e => nomatch e
theorem inputSignalLock (n : Fin 32) (found : List (Fin 5)) (at_ : Nat) : Statement (.inputSignalLock n found at_) := fun _ _ e => nomatch e
theorem inputFrameStart (n : Fin 32) (field2 : Bool) (main : Colour) (override : Option Colour) (at_ : Nat) : Statement (.inputFrameStart n field2 main override at_) := fun _ _ e => nomatch e
theorem inputFrameComplete (n : Fin 32) (field2 : Bool) (meas : Option FrameMeas) (raw : Raw) (at_ : Nat) : Statement (.inputFrameComplete n field2 meas raw at_) := fun _ _ e => nomatch e
theorem inputSignalLoss (n : Fin 32) (at_ : Nat) : Statement (.inputSignalLoss n at_) := fun _ _ e => nomatch e
theorem holdExpiry (n : Fin 64) : Statement (.holdExpiry n) := fun _ _ e => nomatch e
theorem writerStarved (n : Fin 32) (at_ : Nat) : Statement (.writerStarved n at_) := fun _ _ e => nomatch e
theorem readerSelect (e : Fin 96) (at_ : Nat) : Statement (.readerSelect e at_) := fun _ _ e => nomatch e
theorem auxRequest (k : Fin 8) (req : AuxReq) : Statement (.auxRequest k req) := fun _ _ e => nomatch e
theorem edidHpdPulseEnd (k : Fin 8) : Statement (.edidHpdPulseEnd k) := fun _ _ e => nomatch e
theorem segmentTransmit (n : Fin 48) (y : Nat) (tx : Nat) (late : List Nat) (at_ : Nat) : Statement (.segmentTransmit n y tx late at_) := fun _ _ e => nomatch e
theorem audioSampleFrameArrival (n : Fin 32) (form : AudioForm) (samples : List Int) (nonAudio : BitVec 8) (at_ : Nat) : Statement (.audioSampleFrameArrival n form samples nonAudio at_) := fun _ _ e => nomatch e
theorem matrixSamplePeriod : Statement .matrixSamplePeriod := fun _ _ e => nomatch e
theorem sapFrameReceived (n : Fin 16) (slots : List Nat) (bclk : Nat) (nonAudio : BitVec 8) (at_ : Nat) : Statement (.sapFrameReceived n slots bclk nonAudio at_) := fun _ _ e => nomatch e
theorem sapTxFrame (n : Fin 16) (bclk : Nat) (at_ : Nat) : Statement (.sapTxFrame n bclk at_) := fun _ _ e => nomatch e
theorem sapClockAbsent (n : Fin 16) (tx : Bool) (at_ : Nat) : Statement (.sapClockAbsent n tx at_) := fun _ _ e => nomatch e
theorem nonaudioHoldExpiry (feed : Fin 80) (pair : Fin 8) : Statement (.nonaudioHoldExpiry feed pair) := fun _ _ e => nomatch e
theorem asrcLock (s : Fin 512) (locks : Bool) (at_ : Nat) : Statement (.asrcLock s locks at_) := fun _ _ e => nomatch e
theorem rateMeasure (what : RateOf) (frames ticks : Nat) (at_ : Nat) : Statement (.rateMeasure what frames ticks at_) := fun _ _ e => nomatch e
theorem audioRingTransfer (r : Fin 16) (frames : Nat) (at_ : Nat) : Statement (.audioRingTransfer r frames at_) := fun _ _ e => nomatch e
theorem outputFrameStart (n : Fin 48) : Statement (.outputFrameStart n) := fun _ _ e => nomatch e
theorem hpdPlug (n : Fin 48) (sink : SinkCaps) (at_ : Nat) : Statement (.hpdPlug n sink at_) := fun _ _ e => nomatch e
theorem hpdUnplug (n : Fin 48) (at_ : Nat) : Statement (.hpdUnplug n at_) := fun _ _ e => nomatch e
theorem irqHpd (n : Fin 48) (lostLock : Bool) (at_ : Nat) : Statement (.irqHpd n lostLock at_) := fun _ _ e => nomatch e
theorem linkTrainingDone (n : Fin 48) (attempts : List Bool) (panel : SinkCaps) (at_ : Nat) : Statement (.linkTrainingDone n attempts panel at_) := fun _ _ e => nomatch e
theorem trainRetryTimer (n : Fin 48) : Statement (.trainRetryTimer n) := fun _ _ e => nomatch e
theorem zoneStatsPublish (n : Fin 48) (at_ : Nat) : Statement (.zoneStatsPublish n at_) := fun _ _ e => nomatch e
theorem lampTick (meas : List LampMeas) : Statement (.lampTick meas) := fun _ _ e => nomatch e
theorem budgetRiseApply (at_ : Nat) : Statement (.budgetRiseApply at_) := fun _ _ e => nomatch e
theorem pwmPeriodStart (c : Fin 48) (m : LampMeas) (at_ : Nat) : Statement (.pwmPeriodStart c m at_) := fun _ _ e => nomatch e
theorem openRetryBurst (c : Fin 48) (pass : Bool) : Statement (.openRetryBurst c pass) := fun _ _ e => nomatch e
theorem shortRetest (c : Fin 48) (lvmon : Nat) : Statement (.shortRetest c lvmon) := fun _ _ e => nomatch e
theorem verifyAgeExpiry (c : Fin 48) : Statement (.verifyAgeExpiry c) := fun _ _ e => nomatch e
theorem thermistorSample (codes : List (BitVec 12)) (die : Int) (at_ : Nat) : Statement (.thermistorSample codes die at_) := fun _ _ e => nomatch e
theorem lampGateWatchdog (c : Fin 48) (at_ : Nat) : Statement (.lampGateWatchdog c at_) := fun _ _ e => nomatch e
theorem neighbourTest (fails : List (Fin 48 × Fin 3)) (at_ : Nat) : Statement (.neighbourTest fails at_) := fun _ _ e => nomatch e
theorem read (f : Frame) : Statement (.read f) := fun h _ e l => by cases e; exact whole_of_wf h l
theorem write (f : Frame) : Statement (.write f) := fun h _ e l => by cases e; exact whole_of_wf h l
theorem blockRead (f : Frame) : Statement (.blockRead f) := fun h _ e l => by cases e; exact whole_of_wf h l
theorem blockWrite (f : Frame) : Statement (.blockWrite f) := fun h _ e l => by cases e; exact whole_of_wf h l
theorem prepare (f : Frame) : Statement (.prepare f) := fun h _ e l => by cases e; exact whole_of_wf h l
theorem kickoff (f : Frame) : Statement (.kickoff f) := fun h _ e l => by cases e; exact whole_of_wf h l
theorem whistle (f : Frame) : Statement (.whistle f) := fun h _ e l => by cases e; exact whole_of_wf h l
theorem sessionOpen (f : Frame) : Statement (.sessionOpen f) := fun h _ e l => by cases e; exact whole_of_wf h l
theorem sessionClose (f : Frame) : Statement (.sessionClose f) := fun h _ e l => by cases e; exact whole_of_wf h l
theorem rollCall (f : Frame) : Statement (.rollCall f) := fun h _ e l => by cases e; exact whole_of_wf h l
theorem logRead (f : Frame) : Statement (.logRead f) := fun h _ e l => by cases e; exact whole_of_wf h l
theorem eventAck (f : Frame) (late : BitVec 32) : Statement (.eventAck f late) := fun h _ e l => by cases e; exact whole_of_wf h l
theorem save (f : Frame) : Statement (.save f) := fun h _ e l => by cases e; exact whole_of_wf h l
theorem discard (f : Frame) : Statement (.discard f) := fun h _ e l => by cases e; exact whole_of_wf h l
theorem reservedTypeFrame (f : Frame) : Statement (.reservedTypeFrame f) := fun h _ e l => by cases e; exact whole_of_wf h l
theorem dzSelEarlyRise (ty : Fin 16) (f : Frame) (edge : Nat) : Statement (.dzSelEarlyRise ty f edge) := fun h _ e l => by cases e; exact whole_of_wf h l
theorem crcStormExit : Statement .crcStormExit := fun _ _ e => nomatch e
theorem frameOpenWatchdog (got : List Byte) (at_ : Nat) : Statement (.frameOpenWatchdog got at_) := fun _ _ e => nomatch e
theorem bridgeComplete (at_ : Nat) : Statement (.bridgeComplete at_) := fun _ _ e => nomatch e
theorem koAbandon (f : Frame) : Statement (.koAbandon f) := fun h _ e l => by cases e; exact whole_of_wf h l
theorem koEpochWrite (f : Frame) : Statement (.koEpochWrite f) := fun h _ e l => by cases e; exact whole_of_wf h l
theorem whEpochWrite (f : Frame) : Statement (.whEpochWrite f) := fun h _ e l => by cases e; exact whole_of_wf h l
theorem stSaveNow (f : Frame) : Statement (.stSaveNow f) := fun h _ e l => by cases e; exact whole_of_wf h l
theorem stEraseImage (f : Frame) : Statement (.stEraseImage f) := fun h _ e l => by cases e; exact whole_of_wf h l
theorem mtpSaveDone (bad : List (Fin 128)) (low : Option Nat) (at_ : Nat) : Statement (.mtpSaveDone bad low at_) := fun _ _ e => nomatch e
theorem subActionAdd (f : Frame) : Statement (.subActionAdd f) := fun h _ e l => by cases e; exact whole_of_wf h l
theorem subActionRemove (f : Frame) : Statement (.subActionRemove f) := fun h _ e l => by cases e; exact whole_of_wf h l
theorem tnCodeHi (t : Fin 128) (f : Frame) : Statement (.tnCodeHi t f) := fun h _ e l => by cases e; exact whole_of_wf h l
theorem tnCodeLo (t : Fin 128) (f : Frame) : Statement (.tnCodeLo t f) := fun h _ e l => by cases e; exact whole_of_wf h l
theorem tnEnableWrite (t : Fin 128) (f : Frame) : Statement (.tnEnableWrite t f) := fun h _ e l => by cases e; exact whole_of_wf h l
theorem lockoutExpiry (t : Fin 128) : Statement (.lockoutExpiry t) := fun _ _ e => nomatch e
theorem pwStandby (f : Frame) : Statement (.pwStandby f) := fun h _ e l => by cases e; exact whole_of_wf h l
theorem standbyEntry (at_ : Nat) : Statement (.standbyEntry at_) := fun _ _ e => nomatch e
theorem pwWake (f : Frame) : Statement (.pwWake f) := fun h _ e l => by cases e; exact whole_of_wf h l
theorem spanEnergyWake (p : Fin 4) : Statement (.spanEnergyWake p) := fun _ _ e => nomatch e
theorem pwDpReset (f : Frame) : Statement (.pwDpReset f) := fun h _ e l => by cases e; exact whole_of_wf h l
theorem cxControlStart (x : Fin 4) (f : Frame) : Statement (.cxControlStart x f) := fun h _ e l => by cases e; exact whole_of_wf h l
theorem cxControlHalt (x : Fin 4) (f : Frame) : Statement (.cxControlHalt x f) := fun h _ e l => by cases e; exact whole_of_wf h l
theorem cxControlStep (x : Fin 4) (f : Frame) : Statement (.cxControlStep x f) := fun h _ e l => by cases e; exact whole_of_wf h l
theorem mtRunNow (f : Frame) : Statement (.mtRunNow f) := fun h _ e l => by cases e; exact whole_of_wf h l
theorem mrProgram (f : Frame) : Statement (.mrProgram f) := fun h _ e l => by cases e; exact whole_of_wf h l
theorem mrProgramDone (ok : Bool) (at_ : Nat) : Statement (.mrProgramDone ok at_) := fun _ _ e => nomatch e
theorem lwNeighbourTest (f : Frame) : Statement (.lwNeighbourTest f) := fun h _ e l => by cases e; exact whole_of_wf h l
theorem arPlayStart (r : Fin 16) (f : Frame) : Statement (.arPlayStart r f) := fun h _ e l => by cases e; exact whole_of_wf h l
theorem arPlayStop (r : Fin 16) (f : Frame) : Statement (.arPlayStop r f) := fun h _ e l => by cases e; exact whole_of_wf h l
theorem outForceSafe (n : Fin 48) (f : Frame) : Statement (.outForceSafe n f) := fun h _ e l => by cases e; exact whole_of_wf h l
theorem wdHostSWrite (f : Frame) : Statement (.wdHostSWrite f) := fun h _ e l => by cases e; exact whole_of_wf h l
theorem hostSilenceWatchdog : Statement .hostSilenceWatchdog := fun _ _ e => nomatch e
theorem prepareResult (answers : List (Nat × Option Refuse)) (at_ : Nat) : Statement (.prepareResult answers at_) := fun _ _ e => nomatch e
theorem devicePrepare (paths : List TunnelPath) (at_ : Nat) : Statement (.devicePrepare paths at_) := fun _ _ e => nomatch e
theorem kickoffApplyPoint (part : Part) : Statement (.kickoffApplyPoint part) := fun _ _ e => nomatch e
theorem whistleApplyPoint (part : Part) : Statement (.whistleApplyPoint part) := fun _ _ e => nomatch e
theorem spanLinkUp (p : Fin 4) (locked : BitVec 4) (at_ : Nat) : Statement (.spanLinkUp p locked at_) := fun _ _ e => nomatch e
theorem linkDown (p : Fin 4) (alignLost : Bool) (at_ : Nat) : Statement (.linkDown p alignLost at_) := fun _ _ e => nomatch e
theorem idle (p : Fin 4) : Statement (.idle p) := fun _ _ e => nomatch e
theorem align (p : Fin 4) (inStep : Bool) (at_ : Nat) : Statement (.align p inStep at_) := fun _ _ e => nomatch e
theorem tsync (p : Fin 4) (seq : BitVec 8) (stamp : BitVec 40) (frac : Fin 32) (at_ : Nat) : Statement (.tsync p seq stamp frac at_) := fun _ _ e => nomatch e
theorem delayReq (p : Fin 4) (seq : BitVec 8) (frac : Fin 32) (at_ : Nat) : Statement (.delayReq p seq frac at_) := fun _ _ e => nomatch e
theorem delayRsp (p : Fin 4) (seq : BitVec 8) (stamp : BitVec 40) : Statement (.delayRsp p seq stamp) := fun _ _ e => nomatch e
theorem timeExchangeTick (frac : Fin 32) (at_ : Nat) : Statement (.timeExchangeTick frac at_) := fun _ _ e => nomatch e
theorem credit (p : Fin 4) (ch : BitVec 8) (freed : BitVec 16) (next : BitVec 8) (at_ : Nat) : Statement (.credit p ch freed next at_) := fun _ _ e => nomatch e
theorem spanPacket (p : Fin 4) (k : SpanPkt) (at_ : Nat) : Statement (.spanPacket p k at_) := fun _ _ e => nomatch e
theorem reliableResendTimeout (p : Fin 4) (ch : Fin 3) (at_ : Nat) : Statement (.reliableResendTimeout p ch at_) := fun _ _ e => nomatch e
theorem hello (p : Fin 4) (h : HelloMsg) (at_ : Nat) : Statement (.hello p h at_) := fun _ _ e => nomatch e
theorem helloTick (at_ : Nat) : Statement (.helloTick at_) := fun _ _ e => nomatch e
theorem joinReq (p : Fin 4) (serial : BitVec 64) (addr hops : BitVec 8) (path : BitVec 16) (at_ : Nat) : Statement (.joinReq p serial addr hops path at_) := fun _ _ e => nomatch e
theorem joinGrant (p : Fin 4) (serial : BitVec 64) (addr hops : BitVec 8) (path : BitVec 16) (clock : GrantClock) (bus : BitVec 8) (at_ : Nat) : Statement (.joinGrant p serial addr hops path clock bus at_) := fun _ _ e => nomatch e
theorem joinRefuse (p : Fin 4) (serial : BitVec 64) (hops : BitVec 8) (path : BitVec 16) (reason : BitVec 8) (at_ : Nat) : Statement (.joinRefuse p serial hops path reason at_) := fun _ _ e => nomatch e
theorem joinRetryTimer (at_ : Nat) : Statement (.joinRetryTimer at_) := fun _ _ e => nomatch e
theorem leave (p : Fin 4) (reason : BitVec 8) (addrs : List (BitVec 8)) (at_ : Nat) : Statement (.leave p reason addrs at_) := fun _ _ e => nomatch e
theorem roll (p : Fin 4) (gen : BitVec 32) (at_ : Nat) : Statement (.roll p gen at_) := fun _ _ e => nomatch e
theorem rollRsp (p : Fin 4) (gen : BitVec 32) (entry : List Byte) (at_ : Nat) : Statement (.rollRsp p gen entry at_) := fun _ _ e => nomatch e
theorem rollCallTimer (at_ : Nat) : Statement (.rollCallTimer at_) := fun _ _ e => nomatch e
theorem rollCallTimeout (at_ : Nat) : Statement (.rollCallTimeout at_) := fun _ _ e => nomatch e
theorem subAdd (p : Fin 4) (k : SubKey) (at_ : Nat) : Statement (.subAdd p k at_) := fun _ _ e => nomatch e
theorem subDel (p : Fin 4) (k : SubKey) (at_ : Nat) : Statement (.subDel p k at_) := fun _ _ e => nomatch e
theorem subRsp (p : Fin 4) (k : SubKey) (status : BitVec 8) (at_ : Nat) : Statement (.subRsp p k status at_) := fun _ _ e => nomatch e
theorem subscriptionPush (ten : Fin 128) (idx : BitVec 16) (sub : BitVec 8) (at_ : Nat) : Statement (.subscriptionPush ten idx sub at_) := fun _ _ e => nomatch e
theorem push (p : Fin 4) (k : SubKey) (latch : BitVec 64) (val : List Byte) (at_ : Nat) : Statement (.push p k latch val at_) := fun _ _ e => nomatch e
theorem evict (p : Fin 4) (k : SubKey) (latch : BitVec 64) (val : List Byte) (reason : BitVec 8) (at_ : Nat) : Statement (.evict p k latch val reason at_) := fun _ _ e => nomatch e
theorem evictAck (p : Fin 4) (k : SubKey) (at_ : Nat) : Statement (.evictAck p k at_) := fun _ _ e => nomatch e
theorem mirrorSnoopTimer (at_ : Nat) : Statement (.mirrorSnoopTimer at_) := fun _ _ e => nomatch e
theorem snoop (p : Fin 4) (k : SubKey) (tag : BitVec 8) (at_ : Nat) : Statement (.snoop p k tag at_) := fun _ _ e => nomatch e
theorem snoopRsp (p : Fin 4) (k : SubKey) (tag : BitVec 8) (stale : Bool) (latch : BitVec 64) (val : List Byte) (at_ : Nat) : Statement (.snoopRsp p k tag stale latch val at_) := fun _ _ e => nomatch e
theorem relayedFrame (ty : Fin 16) (f : Frame) : Statement (.relayedFrame ty f) := fun h _ e l => by cases e; exact whole_of_wf h l
theorem agentFrame (ten : Fin 128) (seq : BitVec 4) : Statement (.agentFrame ten seq) := fun _ _ e => nomatch e
theorem tunnelPacket (v : Fin 32) (item : TunnelItem) (at_ : Nat) : Statement (.tunnelPacket v item at_) := fun _ _ e => nomatch e
theorem cueBoot : Statement .cueBoot := fun _ _ e => nomatch e
theorem add (x : Fin 4) (rd ra rb : Fin 16) : Statement (.add x rd ra rb) := fun _ _ e => nomatch e
theorem sub (x : Fin 4) (rd ra rb : Fin 16) : Statement (.sub x rd ra rb) := fun _ _ e => nomatch e
theorem and (x : Fin 4) (rd ra rb : Fin 16) : Statement (.and x rd ra rb) := fun _ _ e => nomatch e
theorem or (x : Fin 4) (rd ra rb : Fin 16) : Statement (.or x rd ra rb) := fun _ _ e => nomatch e
theorem xor (x : Fin 4) (rd ra rb : Fin 16) : Statement (.xor x rd ra rb) := fun _ _ e => nomatch e
theorem shl (x : Fin 4) (rd ra rb : Fin 16) : Statement (.shl x rd ra rb) := fun _ _ e => nomatch e
theorem shr (x : Fin 4) (rd ra rb : Fin 16) : Statement (.shr x rd ra rb) := fun _ _ e => nomatch e
theorem sra (x : Fin 4) (rd ra rb : Fin 16) : Statement (.sra x rd ra rb) := fun _ _ e => nomatch e
theorem mul (x : Fin 4) (rd ra rb : Fin 16) : Statement (.mul x rd ra rb) := fun _ _ e => nomatch e
theorem sltu (x : Fin 4) (rd ra rb : Fin 16) : Statement (.sltu x rd ra rb) := fun _ _ e => nomatch e
theorem slt (x : Fin 4) (rd ra rb : Fin 16) : Statement (.slt x rd ra rb) := fun _ _ e => nomatch e
theorem addi (x : Fin 4) (rd ra : Fin 16) (imm : BitVec 16) : Statement (.addi x rd ra imm) := fun _ _ e => nomatch e
theorem andi (x : Fin 4) (rd ra : Fin 16) (imm : BitVec 16) : Statement (.andi x rd ra imm) := fun _ _ e => nomatch e
theorem ori (x : Fin 4) (rd ra : Fin 16) (imm : BitVec 16) : Statement (.ori x rd ra imm) := fun _ _ e => nomatch e
theorem xori (x : Fin 4) (rd ra : Fin 16) (imm : BitVec 16) : Statement (.xori x rd ra imm) := fun _ _ e => nomatch e
theorem shli (x : Fin 4) (rd ra : Fin 16) (n : Fin 64) : Statement (.shli x rd ra n) := fun _ _ e => nomatch e
theorem shri (x : Fin 4) (rd ra : Fin 16) (n : Fin 64) : Statement (.shri x rd ra n) := fun _ _ e => nomatch e
theorem srai (x : Fin 4) (rd ra : Fin 16) (n : Fin 64) : Statement (.srai x rd ra n) := fun _ _ e => nomatch e
theorem sltiu (x : Fin 4) (rd ra : Fin 16) (imm : BitVec 16) : Statement (.sltiu x rd ra imm) := fun _ _ e => nomatch e
theorem slti (x : Fin 4) (rd ra : Fin 16) (imm : BitVec 16) : Statement (.slti x rd ra imm) := fun _ _ e => nomatch e
theorem movk (x : Fin 4) (rd : Fin 16) (imm : BitVec 16) (k : Fin 4) : Statement (.movk x rd imm k) := fun _ _ e => nomatch e
theorem lb (x : Fin 4) (rd ra : Fin 16) (imm : BitVec 16) : Statement (.lb x rd ra imm) := fun _ _ e => nomatch e
theorem lh (x : Fin 4) (rd ra : Fin 16) (imm : BitVec 16) : Statement (.lh x rd ra imm) := fun _ _ e => nomatch e
theorem lw (x : Fin 4) (rd ra : Fin 16) (imm : BitVec 16) : Statement (.lw x rd ra imm) := fun _ _ e => nomatch e
theorem ld (x : Fin 4) (rd ra : Fin 16) (imm : BitVec 16) : Statement (.ld x rd ra imm) := fun _ _ e => nomatch e
theorem sb (x : Fin 4) (rs ra : Fin 16) (imm : BitVec 16) : Statement (.sb x rs ra imm) := fun _ _ e => nomatch e
theorem sh (x : Fin 4) (rs ra : Fin 16) (imm : BitVec 16) : Statement (.sh x rs ra imm) := fun _ _ e => nomatch e
theorem sw (x : Fin 4) (rs ra : Fin 16) (imm : BitVec 16) : Statement (.sw x rs ra imm) := fun _ _ e => nomatch e
theorem sd (x : Fin 4) (rs ra : Fin 16) (imm : BitVec 16) : Statement (.sd x rs ra imm) := fun _ _ e => nomatch e
theorem xchg (x : Fin 4) (rd ra rb : Fin 16) (broken : Bool) : Statement (.xchg x rd ra rb broken) := fun _ _ e => nomatch e
theorem beq (x : Fin 4) (ra rb : Fin 16) (off : BitVec 16) : Statement (.beq x ra rb off) := fun _ _ e => nomatch e
theorem bne (x : Fin 4) (ra rb : Fin 16) (off : BitVec 16) : Statement (.bne x ra rb off) := fun _ _ e => nomatch e
theorem blt (x : Fin 4) (ra rb : Fin 16) (off : BitVec 16) : Statement (.blt x ra rb off) := fun _ _ e => nomatch e
theorem bge (x : Fin 4) (ra rb : Fin 16) (off : BitVec 16) : Statement (.bge x ra rb off) := fun _ _ e => nomatch e
theorem bltu (x : Fin 4) (ra rb : Fin 16) (off : BitVec 16) : Statement (.bltu x ra rb off) := fun _ _ e => nomatch e
theorem bgeu (x : Fin 4) (ra rb : Fin 16) (off : BitVec 16) : Statement (.bgeu x ra rb off) := fun _ _ e => nomatch e
theorem jal (x : Fin 4) (rd : Fin 16) (off : BitVec 20) : Statement (.jal x rd off) := fun _ _ e => nomatch e
theorem jalr (x : Fin 4) (rd ra : Fin 16) (imm : BitVec 16) : Statement (.jalr x rd ra imm) := fun _ _ e => nomatch e
theorem tbc (x : Fin 4) (rd : Fin 16) : Statement (.tbc x rd) := fun _ _ e => nomatch e
theorem waitt (x : Fin 4) (ra : Fin 16) : Statement (.waitt x ra) := fun _ _ e => nomatch e
theorem waittDone (x : Fin 4) : Statement (.waittDone x) := fun _ _ e => nomatch e
theorem waitf (x : Fin 4) (rd ra : Fin 16) : Statement (.waitf x rd ra) := fun _ _ e => nomatch e
theorem waitfDone (x : Fin 4) : Statement (.waitfDone x) := fun _ _ e => nomatch e
theorem sig (x : Fin 4) (mask : BitVec 4) (imm : BitVec 16) : Statement (.sig x mask imm) := fun _ _ e => nomatch e
theorem waits (x : Fin 4) (rd : Fin 16) (imm : BitVec 16) : Statement (.waits x rd imm) := fun _ _ e => nomatch e
theorem waitsDone (x : Fin 4) : Statement (.waitsDone x) := fun _ _ e => nomatch e
theorem gets (x : Fin 4) (rd : Fin 16) : Statement (.gets x rd) := fun _ _ e => nomatch e
theorem drd (x : Fin 4) (rd ra : Fin 16) : Statement (.drd x rd ra) := fun _ _ e => nomatch e
theorem dwr (x : Fin 4) (ra rb : Fin 16) : Statement (.dwr x ra rb) := fun _ _ e => nomatch e
theorem cuePortComplete (x : Fin 4) (at_ : Nat) : Statement (.cuePortComplete x at_) := fun _ _ e => nomatch e
theorem prep (x : Fin 4) : Statement (.prep x) := fun _ _ e => nomatch e
theorem kick (x : Fin 4) (ra : Fin 16) : Statement (.kick x ra) := fun _ _ e => nomatch e
theorem whis (x : Fin 4) (ra : Fin 16) : Statement (.whis x ra) := fun _ _ e => nomatch e
theorem kwait (x : Fin 4) (rd : Fin 16) (w : Fin 2) : Statement (.kwait x rd w) := fun _ _ e => nomatch e
theorem kwaitDone (x : Fin 4) : Statement (.kwaitDone x) := fun _ _ e => nomatch e
theorem blit (x : Fin 4) (ra : Fin 16) : Statement (.blit x ra) := fun _ _ e => nomatch e
theorem blitExecute (rows : Nat) (at_ : Nat) : Statement (.blitExecute rows at_) := fun _ _ e => nomatch e
theorem bwait (x : Fin 4) : Statement (.bwait x) := fun _ _ e => nomatch e
theorem bwaitDone (x : Fin 4) : Statement (.bwaitDone x) := fun _ _ e => nomatch e
theorem play (x : Fin 4) (ra rb : Fin 16) : Statement (.play x ra rb) := fun _ _ e => nomatch e
theorem post (x : Fin 4) (val : BitVec 8) : Statement (.post x val) := fun _ _ e => nomatch e
theorem nop (x : Fin 4) : Statement (.nop x) := fun _ _ e => nomatch e
theorem halt (x : Fin 4) : Statement (.halt x) := fun _ _ e => nomatch e
theorem illegalInstruction (x : Fin 4) (word : BitVec 32) : Statement (.illegalInstruction x word) := fun _ _ e => nomatch e
theorem cueMemoryResponse (x : Fin 4) (at_ : Nat) : Statement (.cueMemoryResponse x at_) := fun _ _ e => nomatch e
theorem powerOnReset : Statement .powerOnReset := fun _ _ e => nomatch e
theorem porRelease (straps : Straps) : Statement (.porRelease straps) := fun _ _ e => nomatch e
theorem railGroupGood (g : Fin 4) (die : Int) : Statement (.railGroupGood g die) := fun _ _ e => nomatch e
theorem startDieHoldRelease (die : Int) : Statement (.startDieHoldRelease die) := fun _ _ e => nomatch e
theorem dataPlaneStart (info : StartInfo) : Statement (.dataPlaneStart info) := fun _ _ e => nomatch e
theorem enableInstant (at_ : Nat) : Statement (.enableInstant at_) := fun _ _ e => nomatch e
theorem railFault (g : Fin 4) (at_ : Nat) : Statement (.railFault g at_) := fun _ _ e => nomatch e
theorem railFaultRestart : Statement .railFaultRestart := fun _ _ e => nomatch e
theorem xoLoss (at_ : Nat) : Statement (.xoLoss at_) := fun _ _ e => nomatch e
theorem xoRestart : Statement .xoRestart := fun _ _ e => nomatch e
theorem thermalWarning (die : Int) (at_ : Nat) : Statement (.thermalWarning die at_) := fun _ _ e => nomatch e
theorem thermalTrip (die : Int) (at_ : Nat) : Statement (.thermalTrip die at_) := fun _ _ e => nomatch e
theorem thermalRestart (die : Int) : Statement (.thermalRestart die) := fun _ _ e => nomatch e
theorem thermalWarningClear (die : Int) (at_ : Nat) : Statement (.thermalWarningClear die at_) := fun _ _ e => nomatch e
theorem badSyncFrame (first8 : BitVec 8) (edges : Nat) : Statement (.badSyncFrame first8 edges) := fun _ _ e => nomatch e
theorem badControlBlock (p : Fin 4) (crcBad : Bool) (typ : BitVec 8) (at_ : Nat) : Statement (.badControlBlock p crcBad typ at_) := fun _ _ e => nomatch e
theorem alignInterval (p : Fin 4) : Statement (.alignInterval p) := fun _ _ e => nomatch e
theorem creditInterval (p : Fin 4) : Statement (.creditInterval p) := fun _ _ e => nomatch e
theorem jtagTckEdge (tms tdi : Bool) (pins : List Bool) : Statement (.jtagTckEdge tms tdi pins) := fun _ _ e => nomatch e
theorem trstNAssert : Statement .trstNAssert := fun _ _ e => nomatch e

end Sys2Proof.Laws.FrameCases
end

