-- ==== Sys2Proof/Tests/Slice0.lean ====
section
/-! SUPPORT. Tests on small states: terms that the well-formedness checks refuse, single commands with results written out
from the spec, and for every statement with hypotheses a state and operands that meet them, clause by clause. -/
namespace Sys2Proof.Tests
open Sys2Proof Sys2Proof.Machine

/-- Objects set to values: (index, subindex, value). -/
def put (s : State) (l : List (Nat × Nat × Nat)) : State := l.foldl (fun s p => s.setN p.1 p.2.1 p.2.2) s
/-- A manager past its enable instant, at TBC 1,000,000. -/
def up : State := put { State.reset with
  power := { run := true, open_ := true, enabled := true, dramOk := true, neighbourOk := true, enables := 15 }, tbc := 1000000 }
  [(0x1500, 1, 2), (0x1500, 2, 0), (0x1500, 9, 15)]
/-- A frame of a tenant to this manager with a right CRC. -/
def fr (ty idx sub : Nat) (p : List Byte) (ten : Nat := 0) : Frame :=
  let f : Frame := { mgr := 0#8, wrk := 0#8, seq := 5#4, index := BitVec.ofNat 16 idx, sub := BitVec.ofNat 8 sub, ten := BitVec.ofNat 8 ten,
                     len := BitVec.ofNat 16 p.length, payload := p, crc := 0#32, inTime := true, gap := 3 }
  { f with crc := BitVec.ofNat 32 (crc32c (frameBody ty f)) }
/-- The state with the session of a tenant open. -/
def sess (s : State) (t : Nat := 0) : State := s.setTenant t { session := true }
def up0 : State := sess up
/-- The object that a WRITE addresses, where it passes its checks. -/
def ob (s : State) (g : Frame) : Obj :=
  match (s.heard g).writeCheck g.ten.toNat (s.tenant g.ten.toNat).session g.index.toNat g.sub.toNat g.payload with
  | .inr o => o
  | .inl _ => (findObj true 0x1101 1).get (by decide +kernel)
/-- The answer of a command. -/
def after (c : Instr) (s : State) : State :=
  match exec c s with
  | .next t => t
  | _ => s

theorem takes_of {s : State} {ty : Nat} {f : Frame} (h : s.power.held = false ∧ s.mgr = true ∧ s.straps.linkmode ≠ 3#2 ∧
    s.link.storm = false ∧ f.mgr.toNat = s.straps.addr.toNat ∧ f.payload.length = f.len.toNat ∧ f.len.toNat ≤ 4096 ∧
    f.crc.toNat = crc32c (frameBody ty f)) : s.Takes ty f :=
  let ⟨released, manager, linkmode, storm, addressed, whole, short, crc⟩ := h
  { released, manager, linkmode, storm, addressed, whole, short, crc }

theorem executes_of {s : State} {ty : Nat} {f : Frame} (t : s.Takes ty f) (h : f.wrk = 0#8 ∧ f.ten.toNat < 128 ∧
    (objectless ty = true → f.index = 0#16 ∧ f.sub = 0#8) ∧ ty < 15 ∧
    (changes ty = true → s.link.replay ≠ some (ty * 16 + f.seq.toNat, f.crc.toNat)) ∧ (s.tenant f.ten.toNat).lock = 0 ∧
    (s.tenant f.ten.toNat).fails < 8) : s.Executes ty f :=
  let ⟨worker, tenant, noObject, type, fresh, unlocked, noFails⟩ := h
  { takes := t, worker, tenant, noObject, type, fresh, unlocked, noFails }

theorem mayWrite_ob {s : State} {g : Frame} (h : ((s.heard g).writeCheck g.ten.toNat (s.tenant g.ten.toNat).session
    g.index.toNat g.sub.toNat g.payload).isRight = true) : s.MayWrite g (ob s g) := by
  unfold State.MayWrite ob
  split
  · assumption
  · simp_all

theorem inv_of {s : State} (h : Memory.wf s.mem = true ∧ s.sck < 2 ^ 48 ∧ s.tbc < 2 ^ 64 ∧ s.ev.vlog.length ≤ 256 ∧
    s.ev.audit.length ≤ 128) : s.Inv := 
  let ⟨mem, sck, tbc, vlog, audit⟩ := h
  { mem, sck, tbc, vlog, audit }


/-! ### Ill-formed terms that the checks refuse -/

theorem test_wf_frame : (Instr.read { fr 1 0x1000 1 [] with len := 2#16 }).wf = false := by decide +kernel
theorem test_wf_frame_ok : (Instr.read (fr 1 0x1000 1 [])).wf = true := by decide +kernel
theorem test_wf_transaction : (Instr.crossbarTransaction
    { m := 16, tag := 0, addr := 0, wr := true, fetch := false, len := 4, data := [1#8], unit := 0, rivals := [], others := 0, lack := 0, bankRivals := [],
      lock := [], upset := none } 0).wf = false := by decide
theorem test_wf_march : (Instr.preservingTestPhaseDone { fails := true, count := 0, word := 0, cols := [] } 0).wf = false := by decide
theorem test_wf_training : (Instr.dramTrainingDone [0] [1024, 1024, 1024, 1024]).wf = false := by decide
theorem test_wf_colour : (Instr.inputFrameStart 0 false { rgb := true, full := none, mat := some 1 } none 0).wf = false := by decide
theorem test_wf_override : (Instr.inputFrameStart 0 false { rgb := false, full := none, mat := none }
    (some { rgb := true, full := none, mat := some 1 }) 0).wf = false := by decide
theorem test_wf_measurement : (Instr.inputFrameComplete 0 false
    (some { w := 0, h := 1, lines := 1, pixels := 1, inter := false, period := 1, accepted := true, pid := none, psf := false,
            mismatch := false, hdr := false, crcLines := 0 })
    { bits := 8, half := false, c0 := [], c1 := [], c2 := [] } 0).wf = false := by decide
theorem test_wf_samples : (Instr.inputFrameComplete 0 false none { bits := 9, half := false, c0 := [], c1 := [], c2 := [] } 0).wf = false := by
  decide
theorem test_wf_segment : (Instr.segmentTransmit 0 4320 0 [] 0).wf = false := by decide
-- the worked cases of chapter 11: the evening peak, and the DAC codes of 700 mA in 1000 mA
theorem test_budget_peak : budgetScale [(7, 7000 * 2 ^ 24), (4, 6720 * 2 ^ 24), (1, 9800 * 2 ^ 24)] 8 (3520 * 2 ^ 24) = [(0, 0x8000), (1, 20998)] := by decide
theorem test_dac_codes : dacOf lampFull 700 1000 = 716 ∧ dacOf lampEighth 700 1000 = 90 := by decide
theorem test_audio_groups : deEmbedded 3 { channels := 0xFFF, groups := [7, 9, 5, 0] } = 0xF0F#16 := by decide
theorem test_ramp_keeps_length : (({ gain := 2 ^ 23, ramp := some ⟨true, 240, 480, 0⟩ } : Dest).step 1 10 true false).gain = roundDiv (241 * 2 ^ 24) 480 := by decide
theorem test_ring_rate : samplesBetween 0 192000 562 1125 = 4 ∧ samplesBetween 0 48000 562 1125 = 1 := by decide
theorem test_wf_audio : (Instr.audioSampleFrameArrival 0 ⟨0, [7, 7, 7, 7], true⟩ [1, 2] 0 0).wf = false := by decide
theorem test_wf_sap : (Instr.sapFrameReceived 0 (List.replicate 17 0) 0 0 0).wf = false := by decide
theorem test_wf_sink : (Instr.hpdPlug 0 { rate := 0, lanes := 3, altScrambler := false, edid := [] } 0).wf = false := by decide
theorem test_wf_panel : (Instr.linkTrainingDone 0 [] { rate := 0, lanes := 4, altScrambler := false, edid := [1#8] } 0).wf = false := by decide
theorem test_wf_lamps : (Instr.lampTick []).wf = false := by decide
theorem test_wf_thermistors : (Instr.thermistorSample [] 0 0).wf = false := by decide
theorem test_wf_part : (Instr.kickoffApplyPoint (.output 48)).wf = false := by decide
theorem test_wf_packet : (Instr.spanPacket 0 { ch := 16, more := false, len := 0, seq := 0, data := [], crc := 0, framed := true, from_ := 0 } 0).wf
    = false := by decide
theorem test_wf_rollcall : (Instr.rollRsp 0 0 [] 0).wf = false := by decide
theorem test_wf_value : (Instr.push 0 ⟨0, 0, 0, 0⟩ 0 [] 0).wf = false := by decide
theorem test_wf_tunnel : (Instr.tunnelPacket 0 (.lost 0) 0).wf = false := by decide
theorem test_wf_sync : (Instr.badSyncFrame 0x7E#8 0).wf = false := by decide
theorem test_wf_pins : (Instr.jtagTckEdge true false []).wf = false := by decide
theorem test_wf_start : (Instr.dataPlaneStart
    { copyA := true, copyB := true, serial := 0, fails := [(0, { fails := false, count := 3, word := 0, cols := [] })] }).wf = false := by
  decide

/-! ### Single commands, with results written out from the spec -/

/-- The image that stands in has the properties of R524, so the default IN_EDID has them whatever the free bytes are. -/
theorem test_edid_plain : edidOk (edidImage edidPlain) = true := by decide +kernel
theorem test_edid_default : edidOk edidDefault = true := by
  by_cases h : edidOk (edidImage Config.edidByte) = true
  · simp [edidDefault, h]
  · simp [edidDefault, h, test_edid_plain]

/-- A READ of 0x1000.01 on the bus: 0x00 and the device code 0x5957 (R1). -/
theorem test_read_identity : (after (.read (fr 1 0x1000 1 [])) up0).link.resp =
    some { status := 0, echo := 0x15, payload := [0x59#8, 0x57#8], full := true } := by decide +kernel

/-- A reserved index answers 0x03, a subindex that does not exist 0x04 (R77). -/
theorem test_read_absent_index : ((after (.read (fr 1 0x0FFF 1 [])) up0).link.resp.map (·.status)) = some 3 := by decide +kernel
theorem test_read_absent_sub : ((after (.read (fr 1 0x1000 0x77 [])) up0).link.resp.map (·.status)) = some 4 := by decide +kernel

/-- A READ without a session is refused with 0x06, one with a payload with 0x02. -/
theorem test_read_no_session : ((after (.read (fr 1 0x1000 1 [] 3)) up0).link.resp.map (·.status)) = some 6 := by decide +kernel

/-- A frame of 14 bytes, a turnaround of 16 edges, a response of 9 bytes, the 12 settle edges and the gap of 3: 215 edges (R12, R42). -/
theorem test_poll_edges : (after (.nopPoll (fr 0 0 0 [])) up0).sck = 215 := by decide +kernel

/-- ADD wraps at 64 bits; the destination may be a source (R417). -/
def ctxWith (a b : Word) : State := up.setCtx 0 { pc := 0x1000, regs := tabSet 0#64 (tabSet 0#64 [] 1 a) 2 b, st := 1 }
theorem test_add_wraps : ((after (.add 0 1 1 2) (ctxWith 0xFFFFFFFFFFFFFFFF#64 2#64)).ctx 0).reg 1 = 1#64 := by decide +kernel
theorem test_c0_discards : ((after (.add 0 0 1 2) (ctxWith 5#64 2#64)).ctx 0).reg 0 = 0#64 := by decide +kernel
theorem test_slt_signed : ((after (.slt 0 3 1 2) (ctxWith 0xFFFFFFFFFFFFFFFF#64 2#64)).ctx 0).reg 3 = 1#64 := by decide +kernel
theorem test_sltu_unsigned : ((after (.sltu 0 3 1 2) (ctxWith 0xFFFFFFFFFFFFFFFF#64 2#64)).ctx 0).reg 3 = 0#64 := by decide +kernel
theorem test_sra_sign : ((after (.sra 0 3 1 2) (ctxWith 0x8000000000000000#64 67#64)).ctx 0).reg 3 = 0xF000000000000000#64 := by decide +kernel
theorem test_branch_back : ((after (.bne 0 1 2 0xFFFE#16) (ctxWith 1#64 2#64)).ctx 0).pc = 0xFF8 := by decide +kernel
theorem test_misaligned_load : ((after (.lw 0 3 1 0#16) (ctxWith 0x10000002#64 0#64)).ctx 0).fault = 5 := by decide +kernel
theorem test_store_little_endian : memRead (after (.sw 0 2 1 0#16) (ctxWith 0x10000000#64 0x11223344#64)).mem 0x10000000 4 =
    [0x44#8, 0x33#8, 0x22#8, 0x11#8] := by decide +kernel

/-- A tick passes on an empty queue while the data plane runs (log entry 1). -/
theorem test_empty_queue : (match step up with | .next t => t.tbc | _ => 0) = 1000001 := by decide +kernel

/-! ### Witnesses for the statements over all states -/

/-- A state with the invariant that a step takes to another. -/
theorem witness_EveryStepKeepsTheInvariant : up.Inv ∧ step up = .next (up.passTicks 1) := ⟨inv_of (by decide +kernel), rfl⟩

/-- Two different objects. -/
theorem witness_StagingHoldsOneEntryPerObject : ((0x2800, 2) : Nat × Nat) ≠ (0x2800, 3) := by decide

/-- A command that changes no strap, and answers. -/
theorem witness_StrapsChangeOnlyAtReset : exec .cueBoot State.reset = .next (after .cueBoot State.reset) ∧
    (∀ st, Instr.cueBoot ≠ .porRelease st) := ⟨rfl, fun _ => Instr.noConfusion⟩
/-- A power-on reset is held; a frame for manager 9. -/
def heldReset : State := { up with power := { held := true } }
def frameFor9 : Frame := { fr 2 0x1500 4 [1#8] with mgr := 9#8 }
theorem witness_StrapsChangeOnlyAtReset_2 : (heldReset.power.held = true) ∧
    (up0.power.held = false ∧ up0.mgr = true ∧ frameFor9.mgr.toNat < 32 ∧ frameFor9.mgr.toNat ≠ up0.straps.addr.toNat ∧
      frameFor9.len.toNat ≤ 4096) := by and_intros <;> decide +kernel

/-- A device with a programmed fuse record, and a command that it answers. -/
def fused : State := { up with bank := { up.bank with customer := 0x800001 :: List.replicate 7 0 } }
theorem witness_RepairFusesAreNeverCleared : exec .powerOnReset fused = .next (after .powerOnReset fused) ∧
    fused.bank.customer.getD 0 0 ≠ 0 := ⟨rfl, by decide +kernel⟩


namespace W1
def q0 : State := sess up0 3
def ent (t ec : Nat) (j : Job) (r : Option Res := none) : BEntry := { ten := t, echo := ec, crc := 1, job := j, res := r }
def q1 : State := { q0 with queue := [ent 3 0x25 .save, ent 0 0x13 (.read 0x2100 3) (some { status := 0, payload := [1#8,2#8] })] }
def q2 : State := { q0 with queue := [ent 0 0x25 .save, ent 0 0x13 (.read 0x2100 3) (some { status := 0, payload := [1#8,2#8] })] }
def q3 : State := (q0.audit 1 0 0 0 0 0).linkViolation 3 1 2 3 4 5
def c16 : List Byte := List.replicate 16 9#8
def q4 : State := (put q0 [(0x1383,1,1),(0x1383,2,0x0909090909090909),(0x1383,3,0x0909090909090909)]).setTenant 3 { fails := 7 }
def q5 : State := (put q0 [(0x1383,1,1)]).setTenant 3 { fails := 2 }
def q6 : State := { q0 with ev := { q0.ev with pend := 0x0FF0F }, staging := [{ idx := 0x2800, sub := 2, ten := 3, val := .num 5 }, { idx := 0x2801, sub := 2, ten := 0, val := .num 5 }] }
def sp1 : State := { up with pending := [.xoRestart] }
def sp2 : State := { up with pending := [.xoRestart, .cueBoot] }
def fr1 : Frame := fr 0 0 0 []
def lf1 : Frame := fr 0xB 0x1410 0 [0#8,0#8,0#8]
def lf2 : Frame := fr 0xB 0x1410 0 [0#8,0#8,1#8]
def lo : Obj := (findObj true 0x1410 0).get (by decide +kernel)
def fr2 : Frame := fr 8 0 0 c16 3
def fr3 : Frame := fr 8 0 0 (List.replicate 16 8#8) 3
def fr4 : Frame := fr 9 0 0 [] 3
def fr5 : Frame := fr 9 0 0 [] 0
def fr6 : Frame := fr 2 0x1510 0xC [1#8]
def si1 : State := { q0 with mtp := { saving := some [1#8,2#8,3#8] }, queue := [ent 0 0x25 .save] }
def si2 : State := { q0 with mtp := { saving := some (List.replicate 5000 3#8) }, queue := [ent 0 0x25 .save] }
def fr7 : Frame := fr 1 0x1000 1 []
def fr8 : Frame := fr 1 0x1400 0 []
def fr9 : Frame := fr 1 0x1102 1 []
def fr10 : Frame := fr 1 0x1F00 1 []
def fr11 : Frame := fr 1 0x1500 1 [] 3
def ro : Obj := (findObj true 0x1000 1).get (by decide +kernel)
def fr12 : Frame := fr 2 0x2203 1 [0#8]
def fr13 : Frame := fr 2 0x2203 7 [3#8]
def fr14 : Frame := fr 2 0x2800 2 [0#8,0#8,1#8,0#8]
def si3 : State := { q0 with staging := List.replicate 2048 { idx := 5, sub := 5, ten := 0, val := .num 3} }
def fr15 : Frame := fr 3 0x2600 2 [0#8,0#8,0#8,0#8,0#8,9#8]
def fr16 : Frame := fr 4 0x2600 2 [0#8,0#8,0#8,0#8,1#8,2#8]
def fr17 : Frame := fr 4 0x2600 2 [1#8,0#8,0#8,0#8,1#8,2#8]
def bo : Obj := (findObj true 0x2600 2).get (by decide +kernel)

theorem witness_StepTakesTheFrontCommand :
    (sp1.pending = [Instr.xoRestart]) :=
  by decide +kernel

theorem witness_EmptyQueuePassesOneTick :
    (up.pending = [] ∧ up.power.run = true) ∧
    (State.reset.pending = [] ∧ State.reset.power.run = false) := by and_intros <;> decide +kernel

theorem witness_PollAndLogReadAnswerWhatIsHeld :
    (q1.Executes 0 fr1 ∧ fr1.len = 0#16 ∧ (List.filter (fun e => e.ten == fr1.ten.toNat && e.cue.isNone && !e.bcast) q1.queue = [ent 0 19 (Job.read 8448 3) (some { status := 0, payload := [1#8, 2#8] })]) ∧ (ent 0 19 (Job.read 8448 3) (some { status := 0, payload := [1#8, 2#8] })).res = some { status := 0, payload := [1#8, 2#8] }) ∧
    (q0.Executes 0 fr1 ∧ fr1.len = 0#16 ∧ (List.filter (fun e => e.ten == fr1.ten.toNat && e.cue.isNone && !e.bcast) q0.queue = [])) ∧
    (q2.Executes 0 fr1 ∧ fr1.len = 0#16 ∧ (List.filter (fun e => e.ten == fr1.ten.toNat && e.cue.isNone && !e.bcast) q2.queue = [ent 0 37 Job.save, ent 0 19 (Job.read 8448 3) (some { status := 0, payload := [1#8, 2#8] })]) ∧ (ent 0 37 Job.save).res = none) ∧
    (q0.Executes 11 lf1 ∧ lf1.len = 3#16 ∧ lf1.index = 5136#16 ∧ lf1.sub = 0#8 ∧ findObj true 5136 0 = some lo ∧ (q0.heard lf1).granted lf1.ten.toNat lo false = true) :=
  ⟨⟨executes_of (takes_of (by decide +kernel)) (by decide +kernel), by and_intros <;> decide +kernel⟩,
   ⟨executes_of (takes_of (by decide +kernel)) (by decide +kernel), by and_intros <;> decide +kernel⟩,
   ⟨executes_of (takes_of (by decide +kernel)) (by decide +kernel), by and_intros <;> decide +kernel⟩,
   ⟨executes_of (takes_of (by decide +kernel)) (by decide +kernel), by decide +kernel, by decide +kernel, by decide +kernel,
    (Option.some_get (by decide +kernel)).symm, by decide +kernel⟩⟩

theorem witness_SessionsOpenCloseAndLockOut :
    (q5.Executes 8 fr2 ∧ fr2.len = 16#16 ∧ q5.tenEnabled fr2.ten.toNat = true ∧ fr2.payload ≠ q5.code fr2.ten.toNat ∧ 0 ≠ fr2.ten.toNat) ∧
    (q5.Executes 8 fr2 ∧ fr2.len = 16#16 ∧ q5.tenEnabled fr2.ten.toNat = true ∧ fr2.payload ≠ q5.code fr2.ten.toNat ∧ (q5.tenant fr2.ten.toNat).fails < 7) ∧
    (q4.Executes 8 fr3 ∧ fr3.len = 16#16 ∧ q4.tenEnabled fr3.ten.toNat = true ∧ fr3.payload ≠ q4.code fr3.ten.toNat ∧ (q4.tenant fr3.ten.toNat).fails = 7) ∧
    (q0.Executes 9 fr4 ∧ fr4.len = 0#16 ∧ (q0.tenant fr4.ten.toNat).session = true ∧ 0 ≠ fr4.ten.toNat) ∧
    (q4.Executes 8 fr2 ∧ fr2.len = 16#16 ∧ q4.tenEnabled fr2.ten.toNat = true ∧ fr2.payload = q4.code fr2.ten.toNat ∧ 0 ≠ fr2.ten.toNat) ∧
    (q0.Executes 9 fr5 ∧ fr5.len = 0#16 ∧ (q0.tenant fr5.ten.toNat).session = true ∧ fr5.ten = 0#8) :=
  ⟨⟨executes_of (takes_of (by decide +kernel)) (by decide +kernel), by and_intros <;> decide +kernel⟩,
   ⟨executes_of (takes_of (by decide +kernel)) (by decide +kernel), by and_intros <;> decide +kernel⟩,
   ⟨executes_of (takes_of (by decide +kernel)) (by decide +kernel), by and_intros <;> decide +kernel⟩,
   ⟨executes_of (takes_of (by decide +kernel)) (by decide +kernel), by and_intros <;> decide +kernel⟩,
   ⟨executes_of (takes_of (by decide +kernel)) (by decide +kernel), by and_intros <;> decide +kernel⟩,
   ⟨executes_of (takes_of (by decide +kernel)) (by decide +kernel), by and_intros <;> decide +kernel⟩⟩

theorem witness_EventAckAndDiscardClearAtSettle :
    (q6.Executes 14 (fr 14 0 0 []) ∧ (fr 14 0 0 []).len = 0#16 ∧ (q6.tenant (fr 14 0 0 []).ten.toNat).session = true ∧ (q6.heard (fr 14 0 0 [])).frozen = false) ∧
    (q6.Executes 12 (fr 12 0 0 [0#8, 0#8, 255#8, 1#8]) ∧ (fr 12 0 0 [0#8, 0#8, 255#8, 1#8]).ten = 0#8 ∧ (fr 12 0 0 [0#8, 0#8, 255#8, 1#8]).len = 4#16 ∧ (q6.tenant 0).session = true ∧ bitAt (ofBE (fr 12 0 0 [0#8, 0#8, 255#8, 1#8]).payload) 31 = false) :=
  ⟨⟨executes_of (takes_of (by decide +kernel)) (by decide +kernel), by and_intros <;> decide +kernel⟩,
   ⟨executes_of (takes_of (by decide +kernel)) (by decide +kernel), by and_intros <;> decide +kernel⟩⟩

theorem witness_SavesEnterTheQueueAndEndWithACopyOrACause :
    (q0.power.run = true ∧ q0.power.stdbyAsked = false ∧ q0.Executes 13 (fr 13 0 0 []) ∧ (fr 13 0 0 []).ten = 0#8 ∧ (fr 13 0 0 []).len = 0#16 ∧ (q0.tenant 0).session = true ∧ q0.HasRoom (fr 13 0 0 []) ∧ q0.queue = [] ∧ q0.power.open_ = true ∧ q0.mtp.saving = none ∧ [2, 3, 4].contains (q0.heard (fr 13 0 0 [])).koState = false) ∧
    (si1.mtp.saving = some [1#8, 2#8, 3#8] ∧ si1.queue = [ent 0 37 Job.save] ∧ (ent 0 37 Job.save).job = Job.save ∧ (ent 0 37 Job.save).res = none ∧ (ent 0 37 Job.save).cue = none ∧ (ent 0 37 Job.save).bcast = false ∧ sectorPayloads [1#8, 2#8, 3#8] ≠ [] ∧ (sectorPayloads [1#8, 2#8, 3#8]).length ≤ 56 ∧ si1.mtp.sectors = []) ∧
    (q0.power.run = true ∧ q0.power.stdbyAsked = false ∧ fr6 = atObject fr6 5392 12 ∧ q0.Executes 2 fr6 ∧ q0.MayWrite fr6 (ob q0 fr6) ∧ q0.HasRoom fr6 ∧ q0.queue = [] ∧ q0.power.open_ = true ∧ q0.mtp.saving = none ∧ [2, 3, 4].contains (q0.heard fr6).koState = false) :=
  ⟨⟨by decide +kernel, by decide +kernel, executes_of (takes_of (by decide +kernel)) (by decide +kernel), by decide +kernel,
    by decide +kernel, by decide +kernel, by unfold State.HasRoom; decide +kernel, by and_intros <;> decide +kernel⟩,
   by and_intros <;> decide +kernel,
   ⟨by decide +kernel, by decide +kernel, by decide +kernel, executes_of (takes_of (by decide +kernel)) (by decide +kernel),
    mayWrite_ob (by decide +kernel), by unfold State.HasRoom; decide +kernel, by and_intros <;> decide +kernel⟩⟩

theorem witness_ReadAnswersTheValueAtEdgeE :
    (q0.Executes 1 fr7 ∧ fr7.len = 0#16 ∧ fr7.index.toNat < 8192 ∧ findObj true fr7.index.toNat fr7.sub.toNat = some ro ∧ ro.d.ty.isDom = false ∧ (q0.heard fr7).granted fr7.ten.toNat ro false = true) :=
  ⟨executes_of (takes_of (by decide +kernel)) (by decide +kernel), by decide +kernel, by decide +kernel,
   (Option.some_get (by decide +kernel)).symm, by and_intros <;> decide +kernel⟩

theorem witness_WriteStagesAnRsValue :
    (si3.Executes 2 fr12 ∧ si3.MayWrite fr12 (ob si3 fr12) ∧ (ob si3 fr12).d.acc = Acc.rs ∧ (si3.heard fr12).stageFull fr12.ten.toNat (ob si3 fr12).idx (ob si3 fr12).sub = true) ∧
    (q0.Executes 2 fr12 ∧ q0.MayWrite fr12 (ob q0 fr12) ∧ (ob q0 fr12).d.acc = Acc.rs ∧ (q0.heard fr12).stageFull fr12.ten.toNat (ob q0 fr12).idx (ob q0 fr12).sub = false) :=
  ⟨⟨executes_of (takes_of (by decide +kernel)) (by decide +kernel), mayWrite_ob (by decide +kernel), by and_intros <;> decide +kernel⟩,
   ⟨executes_of (takes_of (by decide +kernel)) (by decide +kernel), mayWrite_ob (by decide +kernel), by and_intros <;> decide +kernel⟩⟩

theorem witness_BlockTransfersReadAndStageDomains :
    (q0.Executes 4 fr16 ∧ 5 ≤ fr16.len.toNat ∧ findObj true fr16.index.toNat fr16.sub.toNat = some bo ∧ bo.d.ty.isDom = true ∧ bo.d.acc = Acc.rs ∧ (q0.heard fr16).granted fr16.ten.toNat bo true = true ∧ (q0.heard fr16).frozen = false ∧ (bo.d.maint = true → (q0.heard fr16).getN 7968 0 ≠ 0) ∧ q0.queue = [] ∧ q0.power.open_ = true ∧ fr16.inTime = true ∧ blockReserved fr16.payload = 0 ∧ blockOffset fr16.payload ≤ ((q0.heard fr16).domData fr16.ten.toNat bo.idx bo.sub true).length ∧ blockOffset fr16.payload + (List.drop 4 fr16.payload).length ≤ bo.d.ty.domMax ∧ (if blockMode fr16.payload = true then List.take (blockOffset fr16.payload) ((q0.heard fr16).domData fr16.ten.toNat bo.idx bo.sub true) ++ List.drop 4 fr16.payload else List.take (blockOffset fr16.payload) ((q0.heard fr16).domData fr16.ten.toNat bo.idx bo.sub true) ++ List.drop 4 fr16.payload ++ List.drop (blockOffset fr16.payload + (List.drop 4 fr16.payload).length) ((q0.heard fr16).domData fr16.ten.toNat bo.idx bo.sub true)).length ≤ bo.d.ty.domMax ∧ Obj.inRng true bo (Val.bytes (if blockMode fr16.payload = true then List.take (blockOffset fr16.payload) ((q0.heard fr16).domData fr16.ten.toNat bo.idx bo.sub true) ++ List.drop 4 fr16.payload else List.take (blockOffset fr16.payload) ((q0.heard fr16).domData fr16.ten.toNat bo.idx bo.sub true) ++ List.drop 4 fr16.payload ++ List.drop (blockOffset fr16.payload + (List.drop 4 fr16.payload).length) ((q0.heard fr16).domData fr16.ten.toNat bo.idx bo.sub true))) = true ∧ (q0.heard fr16).stageFull fr16.ten.toNat bo.idx bo.sub = false) ∧
    (q0.Executes 3 fr15 ∧ fr15.len = 6#16 ∧ findObj true fr15.index.toNat fr15.sub.toNat = some bo ∧ bo.d.ty.isDom = true ∧ fr15.index ≠ 11017#16 ∧ (q0.heard fr15).granted fr15.ten.toNat bo false = true ∧ q0.queue = [] ∧ q0.power.open_ = true ∧ fr15.inTime = true ∧ blockReserved fr15.payload = 0 ∧ blockMode fr15.payload = false ∧ 0 < beAt fr15.payload 4 2 ∧ beAt fr15.payload 4 2 ≤ 4096 ∧ blockOffset fr15.payload ≤ ((q0.heard fr15).view fr15.ten.toNat fr15.index.toNat fr15.sub.toNat).data.length) :=
  ⟨⟨executes_of (takes_of (by decide +kernel)) (by decide +kernel), by decide +kernel, (Option.some_get (by decide +kernel)).symm,
    by and_intros <;> decide +kernel⟩,
   ⟨executes_of (takes_of (by decide +kernel)) (by decide +kernel), by decide +kernel, (Option.some_get (by decide +kernel)).symm,
    by and_intros <;> decide +kernel⟩⟩

def off : State := sess State.reset
def save0 : Frame := fr 13 0 0 []
theorem witness_SavesEnterTheQueueAndEndWithACopyOrACause_2 :
    off.power.run = false ∧ off.Executes 13 save0 ∧ save0.ten = 0#8 ∧ save0.len = 0#16 ∧ (off.tenant 0).session = true :=
  ⟨by decide +kernel, executes_of (takes_of (by decide +kernel)) (by decide +kernel), by and_intros <;> decide +kernel⟩
end W1

namespace W2
def ent (t ec : Nat) (j : Job) (r : Option Res := none) : BEntry := { ten := t, echo := ec, crc := 1, job := j, res := r }
def q0 : State := sess up0 3
def e1 : State := { (put q0 [(0x1F00,2,1)]) with kick := some { ten := 0 } }
def e2 : State := { (put q0 [(0x1F00,2,2)]) with kick := some { ten := 3 } }
def w8 : List Byte := toBE 8 77
def fr1 : Frame := fr 2 0x1F00 1 w8
def fr2 : Frame := fr 2 0x1F08 1 w8 3
def fr3 : Frame := fr 2 0x1F00 5 [1#8]
def fr4 : Frame := fr 2 0x1440 1 [0#8,9#8]
def fr5 : Frame := fr 2 0x1440 1 [0#8,0#8]
def t1 : State := (put q0 [(0x1383,1,1)]).setTenant 3 { session := true, pendHi := some 5 }
def fr6 : Frame := fr 2 0x1383 2 w8
def fr7 : Frame := fr 2 0x1383 3 w8
def fr8 : Frame := fr 2 0x1383 3 w8 3
def fr9 : Frame := fr 2 0x1383 1 [0#8]
def fr10 : Frame := fr 2 0x1383 1 [1#8]
def sa (a _t : Nat) : State := { q0 with spans := { q0.spans with members := [{ addr := a, serial := 3, port := 1 }] } }
def fr11 : Frame := fr 2 0x1510 0xB [1#8]
def fr12 : Frame := fr 2 0x2860 9 [1#8]
def fr13 : Frame := fr 2 0x2906 1 [0#8,0#8,0x80#8,5#8]
def fr14 : Frame := fr 2 0x1500 3 [1#8]
def fr15 : Frame := fr 2 0x1220 3 [1#8]
def fr16 : Frame := fr 2 0x1220 3 [2#8]
def vstate : State := { q0 with ev := { q0.ev with pend := 3 } }
def fr17 : Frame := fr 2 0x2203 1 [0#8]
def fr18 : Frame := fr 15 0 0 []
def si1 : State := { q0 with link := { storm := true, crcRun := 16 } }
def si2 : State := (put { q0 with ev := { q0.ev with hostArmed := true } } [(0x1440,1,60)])
def si3 : State := q0.setTenant 3 { lock := 900 }
def fr19 : Frame := fr 1 0 0 []
def st0 : State := State.reset
def st1 (n : Nat) (m : Nat) : State := { (put State.reset [(0x1500,9,m)]) with power := { State.reset.power with enables := n } }
def st2 : State := { (put State.reset [(0x1500,9,1),(0x1500,1,6)]) with power := { State.reset.power with enables := 1, dieHold := true } }
def hd : State := { q0 with power := { held := true } }
def dp : State := st1 15 15
def inf : StartInfo := { copyA := true, copyB := false, serial := 7#64, fails := [] }
def en0 : State := { q0 with power := { q0.power with enabled := false } }
def si4 : State := { q0 with power := { q0.power with railAt := [1,2,3] } }
def si5 : State := { (put State.reset [(0x1500,1,1)]) with power := { State.reset.power with enables := 0, railWait := true } }
def si6 : State := { q0 with power := { q0.power with tripped := true } }
def sb : State := { q0 with queue := [ent 0 0x15 .standby] }
def sb2 : State := { (put (sess State.reset) [(0x1500,1,4)]) with power := { State.reset.power with enables := 0, kind := 3 } }
def sb3 : State := { sb2 with straps := { worker := true } }
def fr20 : Frame := fr 2 0x1500 4 [1#8]
def fr21 : Frame := fr 2 0x1500 5 [1#8]

theorem witness_ControlWritesTakeEffectAtSettle :
    (q0.Executes 2 fr2 ∧ q0.MayWrite fr2 (ob q0 fr2) ∧ fr2 = atObject fr2 7944 1) ∧
    (q0.Executes 2 fr1 ∧ q0.MayWrite fr1 (ob q0 fr1) ∧ fr1 = atObject fr1 7936 1) ∧
    (fr4 = atObject fr4 5184 1 ∧ q0.Executes 2 fr4 ∧ q0.MayWrite fr4 (ob q0 fr4)) ∧
    (fr3 = atObject fr3 7936 5 ∧ e1.Executes 2 fr3 ∧ e1.MayWrite fr3 (ob e1 fr3) ∧ (e1.koState = 1 ∨ e1.koState = 2)) :=
  ⟨⟨executes_of (takes_of (by decide +kernel)) (by decide +kernel), mayWrite_ob (by decide +kernel), by decide +kernel⟩,
   ⟨executes_of (takes_of (by decide +kernel)) (by decide +kernel), mayWrite_ob (by decide +kernel), by decide +kernel⟩,
   ⟨by decide +kernel, executes_of (takes_of (by decide +kernel)) (by decide +kernel), mayWrite_ob (by decide +kernel)⟩,
   ⟨by decide +kernel, executes_of (takes_of (by decide +kernel)) (by decide +kernel), mayWrite_ob (by decide +kernel), by decide +kernel⟩⟩

theorem witness_TenantCodesAndEnablesTakeEffectAtSettle :
    (t1.Executes 2 fr7 ∧ t1.MayWrite fr7 (ob t1 fr7) ∧ fr7 = atObject fr7 (4992 + 3) 3 ∧ (t1.tenant 3).pendHi = some 5) ∧
    (q0.Executes 2 fr9 ∧ q0.MayWrite fr9 (ob q0 fr9) ∧ fr9 = atObject fr9 (4992 + 3) 1) ∧
    (q0.Executes 2 fr6 ∧ q0.MayWrite fr6 (ob q0 fr6) ∧ fr6 = atObject fr6 (4992 + 3) 2) :=
  ⟨⟨executes_of (takes_of (by decide +kernel)) (by decide +kernel), mayWrite_ob (by decide +kernel), by and_intros <;> decide +kernel⟩,
   ⟨executes_of (takes_of (by decide +kernel)) (by decide +kernel), mayWrite_ob (by decide +kernel), by decide +kernel⟩,
   ⟨executes_of (takes_of (by decide +kernel)) (by decide +kernel), mayWrite_ob (by decide +kernel), by decide +kernel⟩⟩

theorem witness_TriggersAndSubscriptionActionsEnterTheBridgeQueue :
    (fr15 = ({ atObject fr15 4640 3 with len := 1#16, payload := [1#8] } : Frame) ∧ q0.Executes 2 fr15 ∧ q0.MayWrite fr15 (ob q0 fr15) ∧ q0.HasRoom fr15 ∧ q0.power.run = true ∧ ((q0.spans.members.any fun m => m.addr == (q0.tenant fr15.ten.toNat).subWorker) = false)) ∧
    (q0.Executes 2 fr14 ∧ q0.MayWrite fr14 (ob q0 fr14) ∧ q0.HasRoom fr14 ∧ fr14 = atObject fr14 5376 3 ∧ q0.power.stdbyAsked = false ∧ q0.pwState ≠ 3 ∧ q0.pwState ≠ 4) ∧
    (fr15 = ({ atObject fr15 4640 3 with len := 1#16, payload := [1#8] } : Frame) ∧ (sa 1 0).Executes 2 fr15 ∧ (sa 1 0).MayWrite fr15 (ob (sa 1 0) fr15) ∧ (sa 1 0).HasRoom fr15 ∧ (sa 1 0).power.run = true ∧ (((sa 1 0).spans.members.any fun m => m.addr == ((sa 1 0).tenant fr15.ten.toNat).subWorker) = true) ∧ (true = true → (sa 1 0).spans.mirrors.length < 65536)) :=
  ⟨⟨by decide +kernel, executes_of (takes_of (by decide +kernel)) (by decide +kernel), mayWrite_ob (by decide +kernel),
    by unfold State.HasRoom; decide +kernel, by and_intros <;> decide +kernel⟩,
   ⟨executes_of (takes_of (by decide +kernel)) (by decide +kernel), mayWrite_ob (by decide +kernel), by unfold State.HasRoom; decide +kernel,
    by and_intros <;> decide +kernel⟩,
   ⟨by decide +kernel, executes_of (takes_of (by decide +kernel)) (by decide +kernel), mayWrite_ob (by decide +kernel),
    by unfold State.HasRoom; decide +kernel, by and_intros <;> decide +kernel⟩⟩

theorem witness_BrokenFramesAreLoggedAndStormsEnd :
    (q0.power.held = false ∧ q0.mgr = true ∧ q0.link.storm = false) ∧
    (si1.power.held = false ∧ si1.mgr = true ∧ si1.link.storm = true) ∧
    (q0.Takes (2) fr17 ∧ 20 ≤ 112 + 8 * fr17.len.toNat) ∧
    (q0.Takes 15 fr18) ∧
    (q0.power.held = false ∧ q0.mgr = true ∧ q0.straps.linkmode ≠ 3#2) ∧
    (q0.Executes 2 fr17 ∧ q0.MayWrite fr17 (ob q0 fr17) ∧ (ob q0 fr17).d.acc = Acc.rs ∧ (q0.heard fr17).stageFull fr17.ten.toNat (ob q0 fr17).idx (ob q0 fr17).sub = false ∧ 112 + 8 * fr17.len.toNat < 121 ∧ 121 ≤ 112 + 8 * fr17.len.toNat + q0.getN 4353 1 + 72 + 12) ∧
    (sb3.mgr = false) :=
  ⟨by and_intros <;> decide +kernel, by and_intros <;> decide +kernel, ⟨takes_of (by decide +kernel), by decide +kernel⟩,
   takes_of (by decide +kernel), by and_intros <;> decide +kernel,
   ⟨executes_of (takes_of (by decide +kernel)) (by decide +kernel), mayWrite_ob (by decide +kernel), by and_intros <;> decide +kernel⟩,
   by decide +kernel⟩

theorem witness_WatchdogsRaiseTheirEvents :
    (q0.power.run = true ∧ q0.mgr = true ∧ q0.link.openSeen = false ∧ ([] : List Byte).length ≤ 1 ∧ 4 ≤ q0.tbc) ∧
    (si3.power.run = true ∧ 0 < (si3.tenant 3).lock) ∧
    (si2.power.run = true ∧ si2.ev.hostArmed = true ∧ si2.getN 5184 1 ≠ 0) := by and_intros <;> decide +kernel

theorem witness_PowerComesUpGroupByGroup :
    (st0.powering = true ∧ st0.power.enables = 2 ^ (0 + 1) - 1 ∧ st0.getBit 5376 9 0 = false ∧ 300 ≤ st0.coolLimit) ∧
    (st2.power.dieHold = true ∧ 300 ≤ st2.coolLimit) ∧
    (st0.powering = true ∧ st0.power.enables = 2 ^ (0 + 1) - 1 ∧ st0.getBit 5376 9 0 = false ∧ st0.coolLimit < 1200) ∧
    ((st1 7 3).powering = true ∧ (st1 7 3).power.enables = 2 ^ (2 + 1) - 1 ∧ (st1 7 3).getBit 5376 9 2 = false) ∧
    (hd.power.held = true ∧ hd.mtp.saving = none) ∧
    ((st1 15 7).powering = true ∧ (st1 15 7).power.enables = 2 ^ (3 + 1) - 1 ∧ (st1 15 7).getBit 5376 9 3 = false) ∧
    ((st1 3 1).powering = true ∧ (st1 3 1).power.enables = 2 ^ (1 + 1) - 1 ∧ (st1 3 1).getBit 5376 9 1 = false) := by and_intros <;> decide +kernel

theorem witness_StartsOpenTheBridgeAndEnableThePorts :
    (dp.powering = true ∧ dp.power.enables = 15 ∧ dp.getN 5376 9 = 15 ∧ dp.power.tripped = false ∧ dp.power.xoLost = false ∧ (inf.copyA = true ∨ inf.copyB = true)) ∧
    (en0.mgr = true ∧ en0.power.open_ = true ∧ en0.power.dramOk = true ∧ en0.power.neighbourOk = true ∧ en0.power.enabled = false) := by and_intros <;> decide +kernel

theorem witness_FaultsStopTheDataPlane :
    (q0.power.held = false ∧ bitAt q0.power.enables 0 = true) ∧
    (q0.power.run = true) ∧
    (si5.power.railWait = true ∧ si5.pwState ≠ 7) := by and_intros <;> decide +kernel

theorem witness_DieSensorStatesFollowItsLimits :
    (si6.power.tripped = true) ∧
    (q0.dieSeen = true ∧ q0.dtState ≠ 2) ∧
    (q0.dieSeen = true ∧ q0.dtState = 0 ∧ Int.ofNat q0.straps.grade ≤ 1100) := by and_intros <;> decide +kernel

theorem witness_StandbyIsEnteredAndLeft :
    (sb3.mgr = false ∧ sb3.pwState = 4) ∧
    (sb.power.run = true ∧ sb.power.open_ = true ∧ sb.pwState = 2 ∧ sb.queue = [ent 0 21 Job.standby] ∧ (ent 0 21 Job.standby).job = Job.standby ∧ (ent 0 21 Job.standby).res = none ∧ (ent 0 21 Job.standby).cue = none ∧ (ent 0 21 Job.standby).bcast = false ∧ (∀ (x : Fin 4), (sb.ctx ↑x).port = none) ∧ 4 ≤ sb.tbc ∧ sb.snapshot.length ≤ sb.getN 5377 2) ∧
    (fr20 = atObject fr20 5376 4 ∧ sb2.Executes 2 fr20 ∧ sb2.MayWrite fr20 (ob sb2 fr20) ∧ sb2.pwState = 4) :=
  ⟨by and_intros <;> decide +kernel, by and_intros <;> decide +kernel,
   ⟨by decide +kernel, executes_of (takes_of (by decide +kernel)) (by decide +kernel), mayWrite_ob (by decide +kernel), by decide +kernel⟩⟩

def wakeObj : Obj := (findObj true 0x1500 4).get (by decide +kernel)
def wake0 : Frame := fr 2 0x1500 4 [0#8]
theorem witness_StandbyIsEnteredAndLeft_3 :
    (fr20 = atObject fr20 0x1500 4 ∧ up0.Executes 2 fr20 ∧ up0.MayWrite fr20 (ob up0 fr20) ∧ up0.pwState ≠ 4) ∧
    (up0.Executes 2 wake0 ∧ wake0.index = 0x1500#16 ∧ wake0.sub = 4#8 ∧ wake0.payload = [0#8] ∧ (up0.tenant wake0.ten.toNat).session = true ∧
      findObj true 0x1500 4 = some wakeObj ∧ up0.admits wake0.ten.toNat wakeObj true = true) :=
  ⟨⟨by decide +kernel, executes_of (takes_of (by decide +kernel)) (by decide +kernel), mayWrite_ob (by decide +kernel), by decide +kernel⟩,
   ⟨executes_of (takes_of (by decide +kernel)) (by decide +kernel), by decide +kernel, by decide +kernel, by decide +kernel, by decide +kernel,
    (Option.some_get (by decide +kernel)).symm, by decide +kernel⟩⟩
end W2

namespace W2b
def ent (t ec : Nat) (j : Job) (r : Option Res := none) : BEntry := { ten := t, echo := ec, crc := 1, job := j, res := r }
def q0 : State := put (sess up0 3) [(0x1F20,0,1)]
def cd (s : State) (g : Frame) : Nat := match (s.heard g).writeCheck g.ten.toNat (s.tenant g.ten.toNat).session g.index.toNat g.sub.toNat g.payload with | .inr o => 1000+o.sub | .inl e => e
def fs := [fr 2 0x1510 0xB [1#8], fr 2 0x2860 9 [1#8], fr 2 0x2906 1 [0#8,0#8,0x80#8,5#8], fr 2 0x1500 3 [1#8], fr 2 0x1220 3 [1#8],fr 2 0x1500 5 [1#8],fr 2 0x1500 4 [1#8]]
def o1 := (findObj true 0x2100 3).get (by decide +kernel)
def o2 := (findObj true 0x2860 0xB).get (by decide +kernel)
def si1 : State := { q0 with queue := [ent 0 0x15 (.read 0x2100 3)] }
def si2 : State := { q0 with queue := [ent 0 0x15 (.read 0x2860 0x0B)] }
def fr1 : Frame := fr 2 0x1510 0xB [1#8]
def fr2 : Frame := fr 2 0x2860 9 [1#8]
def fr3 : Frame := fr 2 0x2906 1 [0#8,0#8,0x80#8,5#8]
def fr4 : Frame := fr 2 0x2906 1 [0x80#8,5#8,1#8,1#8]
def fr5 : Frame := fr 2 0x1500 3 [1#8]
def fr6 : Frame := fr 2 0x1500 4 [1#8]
def fr7 : Frame := fr 2 0x1500 5 [1#8]

theorem witness_TriggersAndSubscriptionActionsEnterTheBridgeQueue_2 :
    (q0.Executes 2 fr2 ∧ q0.MayWrite fr2 (ob q0 fr2) ∧ q0.HasRoom fr2 ∧ fr2 = atObject fr2 10336 9) ∧
    (q0.Executes 2 fr1 ∧ q0.MayWrite fr1 (ob q0 fr1) ∧ q0.HasRoom fr1 ∧ fr1 = atObject fr1 5392 11) :=
  ⟨⟨executes_of (takes_of (by decide +kernel)) (by decide +kernel), mayWrite_ob (by decide +kernel), by unfold State.HasRoom; decide +kernel, by decide +kernel⟩,
   ⟨executes_of (takes_of (by decide +kernel)) (by decide +kernel), mayWrite_ob (by decide +kernel), by unfold State.HasRoom; decide +kernel, by decide +kernel⟩⟩

theorem witness_BridgeCompletesAWaitingRead :
    (si1.power.open_ = true ∧ si1.mgr = true ∧ si1.straps.worker = false ∧ si1.queue = [ent 0 21 (Job.read 8448 3)] ∧ (ent 0 21 (Job.read 8448 3)).res = none ∧ (ent 0 21 (Job.read 8448 3)).cue = none ∧ (ent 0 21 (Job.read 8448 3)).bcast = false ∧ (ent 0 21 (Job.read 8448 3)).job = Job.read 8448 3 ∧ findObj true 8448 3 = some o1 ∧ o1.d.acc ≠ Acc.rc ∧ 4 ≤ si1.tbc) :=
  ⟨by decide +kernel, by decide +kernel, by decide +kernel, by decide +kernel, by decide +kernel, by decide +kernel, by decide +kernel,
   by decide +kernel, (Option.some_get (by decide +kernel)).symm, by and_intros <;> decide +kernel⟩

theorem witness_StandbyIsEnteredAndLeft_2 :
    (fr7 = atObject fr7 5376 5 ∧ q0.Executes 2 fr7 ∧ q0.MayWrite fr7 (ob q0 fr7) ∧ q0.power.run = true ∧ q0.power.enables = 15 ∧ q0.pwState = 2) :=
  ⟨by decide +kernel, executes_of (takes_of (by decide +kernel)) (by decide +kernel), mayWrite_ob (by decide +kernel),
   by and_intros <;> decide +kernel⟩
end W2b

namespace W2c
def q0 : State := put up0 [(0x1441,1,1)]
def si1 : State := {q0 with tenants := tabSet {} q0.tenants 3 {lock := 5, fails := 8}}
def q1 : State := put (sess up0 3) [(0x1F20,0,1)]
def fr1 : Frame := fr 2 0x1500 5 [1#8]

theorem witness_DieSensorStatesFollowItsLimits_2 :
    (q0.dieSeen = true ∧ q0.dtState = 1 ∧ 500 ≤ q0.coolLimit) := by and_intros <;> decide +kernel
end W2c

namespace W3
def rg (l : List (Nat × Nat)) : Tab Word := l.foldl (fun t p => tabSet 0#64 t p.1 (BitVec.ofNat 64 p.2)) []
def cx0 : Ctx := { pc := 0x4000000, regs := rg [(1,5),(2,2^64-3),(3,0x4000100),(4,2^36),(5,7),(6,0x4000103),(7,2^64-4)], st := 1 }
def c0 : State := up.setCtx 1 cx0
def c1 : State := up.setCtx 1 { cx0 with pc := 2^36-4, step := true, sig := 3 }
def c2 : State := (c0.writeMem 16 0 0x4000100 [1,2,3,4,5,6,7,8,0xff]).1
def m1 : Ctx := { cx0 with regs := rg [(1,2^36-4),(2,2^64-3),(3,sramBase+0x100),(4,2^36),(6,sramBase+0x103)] }
def m2 : State := (up.setCtx 1 m1).writeMem 16 0 (sramBase+0x100) [1,2,3,4,5,6,7,8,0xff] |>.1
def n1 : State := up.setCtx 1 { m1 with pc := 2^36-4 }
def o1 : State := (put c0 []).setOutput 2 { on := true, frames := 7, start := 12345 }
def w1 : State := o1.setCtx 1 { cx0 with st := 2, wait := 1, waitOn := 1500000 }
def w2 : State := o1.setCtx 1 { cx0 with st := 2, wait := 2, waitOn := 2 + 64 * 6, waitRd := 9 }
def o2 : State := o1.setCtx 1 { cx0 with regs := rg [(1,2),(2,2^64-3),(3,49)] }
def k4 : State := (put c0 [(0x1F00,2,4),(0x1F08,2,2)])
def k5 : State := (put c0 [(0x1F00,2,7),(0x1F08,2,3)])
def kw (s : State) (w : Nat) : State := s.setCtx 1 { cx0 with st := 2, wait := 4, waitOn := w, waitRd := 9 }
def s1 : State := c1.setCtx 1 { cx0 with st := 2, wait := 3, waitOn := 2, sig := 7, waitRd := 4 }
def pq (op rd a b : Nat) : State := c0.setCtx 1 { cx0 with wait := 6, port := some { op := op, rd := rd, a := BitVec.ofNat 64 a, b := BitVec.ofNat 64 b } }

theorem witness_RegisterInstructionsWriteTheirResult :
    (c0.issues 1 = true) :=
  by decide +kernel

theorem witness_ImmediateInstructionsWriteTheirResult :
    (c0.issues 1 = true) :=
  by decide +kernel

theorem witness_LoadsStoresAndSwapsGoThroughM12 :
    (m2.issues 1 = true ∧ BitVec.toNat ((m2.ctx 1).reg 3 + BitVec.signExtend 64 0#16) < 2 ^ 36 ∧ BitVec.toNat ((m2.ctx 1).reg 3 + BitVec.signExtend 64 0#16) % 4 = 0 ∧ (m2.xbWrite 12 (m2.ctxTen 1) (BitVec.toNat ((m2.ctx 1).reg 3 + BitVec.signExtend 64 0#16)) (toLE 4 (BitVec.toNat ((m2.ctx 1).reg 9)))).snd.code = 0) ∧
    (m2.issues 1 = true ∧ BitVec.toNat ((m2.ctx 1).reg 3 + BitVec.signExtend 64 0#16) < 2 ^ 36 ∧ BitVec.toNat ((m2.ctx 1).reg 3 + BitVec.signExtend 64 0#16) % 1 = 0 ∧ (m2.xbRead 12 (m2.ctxTen 1) (BitVec.toNat ((m2.ctx 1).reg 3 + BitVec.signExtend 64 0#16)) 1).snd.code = 0) ∧
    (m2.issues 1 = true ∧ 2 ^ 36 ≤ BitVec.toNat ((m2.ctx 1).reg 4 + BitVec.signExtend 64 0#16)) ∧
    (m2.issues 1 = true ∧ BitVec.toNat ((m2.ctx 1).reg 6 + BitVec.signExtend 64 0#16) < 2 ^ 36 ∧ BitVec.toNat ((m2.ctx 1).reg 6 + BitVec.signExtend 64 0#16) % 2 ≠ 0) ∧
    (m2.issues 1 = true ∧ BitVec.toNat ((m2.ctx 1).reg 3 + BitVec.signExtend 64 0#16) < 2 ^ 36 ∧ BitVec.toNat ((m2.ctx 1).reg 3 + BitVec.signExtend 64 0#16) % 8 = 0 ∧ (m2.xbWrite 12 (m2.ctxTen 1) (BitVec.toNat ((m2.ctx 1).reg 3 + BitVec.signExtend 64 0#16)) (toLE 8 (BitVec.toNat ((m2.ctx 1).reg 9)))).snd.code = 0) ∧
    (m2.issues 1 = true ∧ BitVec.toNat ((m2.ctx 1).reg 3) < 2 ^ 36 ∧ BitVec.toNat ((m2.ctx 1).reg 3) % 8 = 0 ∧ m2.lockInvalid [(BitVec.toNat ((m2.ctx 1).reg 3), 8)] = false ∧ (m2.xbRead 12 (m2.ctxTen 1) (BitVec.toNat ((m2.ctx 1).reg 3)) 8).snd.code = 0 ∧ ((m2.xbRead 12 (m2.ctxTen 1) (BitVec.toNat ((m2.ctx 1).reg 3)) 8).fst.xbWrite 12 (m2.ctxTen 1) (BitVec.toNat ((m2.ctx 1).reg 3)) (toLE 8 (BitVec.toNat ((m2.ctx 1).reg 2)))).snd.code = 0) ∧
    (m2.issues 1 = true ∧ BitVec.toNat ((m2.ctx 1).reg 6 + BitVec.signExtend 64 0#16) < 2 ^ 36 ∧ BitVec.toNat ((m2.ctx 1).reg 6 + BitVec.signExtend 64 0#16) % 4 ≠ 0) ∧
    (m2.issues 1 = true ∧ BitVec.toNat ((m2.ctx 1).reg 3 + BitVec.signExtend 64 0#16) < 2 ^ 36 ∧ BitVec.toNat ((m2.ctx 1).reg 3 + BitVec.signExtend 64 0#16) % 8 = 0 ∧ (m2.xbRead 12 (m2.ctxTen 1) (BitVec.toNat ((m2.ctx 1).reg 3 + BitVec.signExtend 64 0#16)) 8).snd.code = 0) ∧
    (m2.issues 1 = true ∧ BitVec.toNat ((m2.ctx 1).reg 6) < 2 ^ 36 ∧ BitVec.toNat ((m2.ctx 1).reg 6) % 8 ≠ 0) ∧
    (m2.issues 1 = true ∧ BitVec.toNat ((m2.ctx 1).reg 3 + BitVec.signExtend 64 0#16) < 2 ^ 36 ∧ BitVec.toNat ((m2.ctx 1).reg 3 + BitVec.signExtend 64 0#16) % 2 = 0 ∧ (m2.xbWrite 12 (m2.ctxTen 1) (BitVec.toNat ((m2.ctx 1).reg 3 + BitVec.signExtend 64 0#16)) (toLE 2 (BitVec.toNat ((m2.ctx 1).reg 9)))).snd.code = 0) ∧
    (m2.issues 1 = true ∧ BitVec.toNat ((m2.ctx 1).reg 6 + BitVec.signExtend 64 0#16) < 2 ^ 36 ∧ BitVec.toNat ((m2.ctx 1).reg 6 + BitVec.signExtend 64 0#16) % 8 ≠ 0) ∧
    (m2.issues 1 = true ∧ BitVec.toNat ((m2.ctx 1).reg 3 + BitVec.signExtend 64 0#16) < 2 ^ 36 ∧ BitVec.toNat ((m2.ctx 1).reg 3 + BitVec.signExtend 64 0#16) % 4 = 0 ∧ (m2.xbRead 12 (m2.ctxTen 1) (BitVec.toNat ((m2.ctx 1).reg 3 + BitVec.signExtend 64 0#16)) 4).snd.code = 0) ∧
    (m2.issues 1 = true ∧ BitVec.toNat ((m2.ctx 1).reg 3 + BitVec.signExtend 64 0#16) < 2 ^ 36 ∧ BitVec.toNat ((m2.ctx 1).reg 3 + BitVec.signExtend 64 0#16) % 1 = 0 ∧ (m2.xbWrite 12 (m2.ctxTen 1) (BitVec.toNat ((m2.ctx 1).reg 3 + BitVec.signExtend 64 0#16)) (toLE 1 (BitVec.toNat ((m2.ctx 1).reg 9)))).snd.code = 0) ∧
    (m2.issues 1 = true ∧ BitVec.toNat ((m2.ctx 1).reg 3 + BitVec.signExtend 64 0#16) < 2 ^ 36 ∧ BitVec.toNat ((m2.ctx 1).reg 3 + BitVec.signExtend 64 0#16) % 2 = 0 ∧ (m2.xbRead 12 (m2.ctxTen 1) (BitVec.toNat ((m2.ctx 1).reg 3 + BitVec.signExtend 64 0#16)) 2).snd.code = 0) := by and_intros <;> decide +kernel

theorem witness_BranchesAndJumpsSetThePc :
    (c0.issues 1 = true ∧ decide (BitVec.toNat ((c0.ctx 1).reg 2) < BitVec.toNat ((c0.ctx 1).reg 2)) = false) ∧
    (n1.issues 1 = true ∧ BitVec.toNat ((n1.ctx 1).reg 1 + BitVec.signExtend 64 0#16) % 4 = 0 ∧ BitVec.toNat ((n1.ctx 1).reg 1 + BitVec.signExtend 64 0#16) < 2 ^ 36) ∧
    (c0.issues 1 = true ∧ decide (BitVec.toNat ((c0.ctx 1).reg 2) ≤ BitVec.toNat ((c0.ctx 1).reg 2)) = true ∧ (BitVec.ofNat 64 (c0.ctx 1).pc + BitVec.signExtend 64 32#16 <<< 2).toNat % 4 = 0 ∧ (BitVec.ofNat 64 (c0.ctx 1).pc + BitVec.signExtend 64 32#16 <<< 2).toNat < 2 ^ 36) ∧
    (n1.issues 1 = true ∧ decide (BitVec.toNat ((n1.ctx 1).reg 1) < BitVec.toNat ((n1.ctx 1).reg 2)) = true ∧ (BitVec.ofNat 64 (n1.ctx 1).pc + BitVec.signExtend 64 32#16 <<< 2).toNat % 4 = 0 ∧ 2 ^ 36 ≤ (BitVec.ofNat 64 (n1.ctx 1).pc + BitVec.signExtend 64 32#16 <<< 2).toNat) ∧
    (c0.issues 1 = true ∧ ((c0.ctx 1).reg 2 != (c0.ctx 1).reg 1) = true ∧ (BitVec.ofNat 64 (c0.ctx 1).pc + BitVec.signExtend 64 32#16 <<< 2).toNat % 4 = 0 ∧ (BitVec.ofNat 64 (c0.ctx 1).pc + BitVec.signExtend 64 32#16 <<< 2).toNat < 2 ^ 36) ∧
    (c0.issues 1 = true ∧ (BitVec.ofNat 64 (c0.ctx 1).pc + BitVec.signExtend 64 2#16 <<< 2).toNat % 4 = 0 ∧ (BitVec.ofNat 64 (c0.ctx 1).pc + BitVec.signExtend 64 2#16 <<< 2).toNat < 2 ^ 36) ∧
    (n1.issues 1 = true ∧ ((n1.ctx 1).reg 2 != (n1.ctx 1).reg 1) = true ∧ (BitVec.ofNat 64 (n1.ctx 1).pc + BitVec.signExtend 64 32#16 <<< 2).toNat % 4 = 0 ∧ 2 ^ 36 ≤ (BitVec.ofNat 64 (n1.ctx 1).pc + BitVec.signExtend 64 32#16 <<< 2).toNat) ∧
    (n1.issues 1 = true ∧ ((n1.ctx 1).reg 2 == (n1.ctx 1).reg 2) = true ∧ (BitVec.ofNat 64 (n1.ctx 1).pc + BitVec.signExtend 64 32#16 <<< 2).toNat % 4 = 0 ∧ 2 ^ 36 ≤ (BitVec.ofNat 64 (n1.ctx 1).pc + BitVec.signExtend 64 32#16 <<< 2).toNat) ∧
    (c0.issues 1 = true ∧ ((c0.ctx 1).reg 2 == (c0.ctx 1).reg 2) = true ∧ (BitVec.ofNat 64 (c0.ctx 1).pc + BitVec.signExtend 64 32#16 <<< 2).toNat % 4 = 0 ∧ (BitVec.ofNat 64 (c0.ctx 1).pc + BitVec.signExtend 64 32#16 <<< 2).toNat < 2 ^ 36) ∧
    (c0.issues 1 = true ∧ decide (BitVec.toInt ((c0.ctx 1).reg 2) ≤ BitVec.toInt ((c0.ctx 1).reg 2)) = true ∧ (BitVec.ofNat 64 (c0.ctx 1).pc + BitVec.signExtend 64 32#16 <<< 2).toNat % 4 = 0 ∧ (BitVec.ofNat 64 (c0.ctx 1).pc + BitVec.signExtend 64 32#16 <<< 2).toNat < 2 ^ 36) ∧
    (c0.issues 1 = true ∧ decide (BitVec.toNat ((c0.ctx 1).reg 1) < BitVec.toNat ((c0.ctx 1).reg 2)) = true ∧ (BitVec.ofNat 64 (c0.ctx 1).pc + BitVec.signExtend 64 32#16 <<< 2).toNat % 4 = 0 ∧ (BitVec.ofNat 64 (c0.ctx 1).pc + BitVec.signExtend 64 32#16 <<< 2).toNat < 2 ^ 36) ∧
    (c0.issues 1 = true ∧ ((c0.ctx 1).reg 2 != (c0.ctx 1).reg 2) = false) ∧
    (c0.issues 1 = true ∧ decide (BitVec.toNat ((c0.ctx 1).reg 2) ≤ BitVec.toNat ((c0.ctx 1).reg 1)) = false) ∧
    (c0.issues 1 = true ∧ decide (BitVec.toInt ((c0.ctx 1).reg 2) < BitVec.toInt ((c0.ctx 1).reg 2)) = false) ∧
    (c0.issues 1 = true ∧ decide (BitVec.toInt ((c0.ctx 1).reg 1) ≤ BitVec.toInt ((c0.ctx 1).reg 2)) = false) ∧
    (c0.issues 1 = true ∧ decide (BitVec.toInt ((c0.ctx 1).reg 2) < BitVec.toInt ((c0.ctx 1).reg 1)) = true ∧ (BitVec.ofNat 64 (c0.ctx 1).pc + BitVec.signExtend 64 32#16 <<< 2).toNat % 4 = 0 ∧ (BitVec.ofNat 64 (c0.ctx 1).pc + BitVec.signExtend 64 32#16 <<< 2).toNat < 2 ^ 36) ∧
    (n1.issues 1 = true ∧ decide (BitVec.toNat ((n1.ctx 1).reg 2) ≤ BitVec.toNat ((n1.ctx 1).reg 2)) = true ∧ (BitVec.ofNat 64 (n1.ctx 1).pc + BitVec.signExtend 64 32#16 <<< 2).toNat % 4 = 0 ∧ 2 ^ 36 ≤ (BitVec.ofNat 64 (n1.ctx 1).pc + BitVec.signExtend 64 32#16 <<< 2).toNat) ∧
    (c0.issues 1 = true ∧ ((c0.ctx 1).reg 2 == (c0.ctx 1).reg 1) = false) ∧
    (n1.issues 1 = true ∧ decide (BitVec.toInt ((n1.ctx 1).reg 2) < BitVec.toInt ((n1.ctx 1).reg 1)) = true ∧ (BitVec.ofNat 64 (n1.ctx 1).pc + BitVec.signExtend 64 32#16 <<< 2).toNat % 4 = 0 ∧ 2 ^ 36 ≤ (BitVec.ofNat 64 (n1.ctx 1).pc + BitVec.signExtend 64 32#16 <<< 2).toNat) ∧
    (c0.issues 1 = true ∧ BitVec.toNat ((c0.ctx 1).reg 2 + BitVec.signExtend 64 32#16) % 4 ≠ 0) ∧
    (n1.issues 1 = true ∧ decide (BitVec.toInt ((n1.ctx 1).reg 2) ≤ BitVec.toInt ((n1.ctx 1).reg 2)) = true ∧ (BitVec.ofNat 64 (n1.ctx 1).pc + BitVec.signExtend 64 32#16 <<< 2).toNat % 4 = 0 ∧ 2 ^ 36 ≤ (BitVec.ofNat 64 (n1.ctx 1).pc + BitVec.signExtend 64 32#16 <<< 2).toNat) := by and_intros <;> decide +kernel

theorem witness_TimeFrameAndKickoffWaitsComplete :
    (c0.issues 1 = true ∧ BitVec.toNat ((c0.ctx 1).reg 1) ≤ c0.tbc) ∧
    (c0.issues 1 = true ∧ c0.tbc < BitVec.toNat ((c0.ctx 1).reg 2)) ∧
    (w2.power.run = true ∧ (w2.ctx 1).st = 2 ∧ (w2.ctx 1).wait = 2 ∧ (w2.output ((w2.ctx 1).waitOn % 64)).frames ≠ (w2.ctx 1).waitOn / 64 ∧ 0 < (w2.ctx 1).waitRd) ∧
    (o2.issues 1 = true ∧ o2.waitOut (BitVec.toNat ((o2.ctx 1).reg 1)) < 48 ∧ (o2.output (o2.waitOut (BitVec.toNat ((o2.ctx 1).reg 1)))).on = true) ∧
    (c0.issues 1 = true ∧ (¬if 0 = 0 then (if 0 = 0 then c0.getN 7936 2 else c0.getN 7944 2) = 1 ∨ (if 0 = 0 then c0.getN 7936 2 else c0.getN 7944 2) = 3 ∨ (if 0 = 0 then c0.getN 7936 2 else c0.getN 7944 2) = 4 else (if 0 = 0 then c0.getN 7936 2 else c0.getN 7944 2) = 1 ∨ (if 0 = 0 then c0.getN 7936 2 else c0.getN 7944 2) = 2)) ∧
    (c0.issues 1 = true ∧ 48 ≤ c0.waitOut (BitVec.toNat ((c0.ctx 1).reg 2))) ∧
    (w1.power.run = true ∧ (w1.ctx 1).st = 2 ∧ (w1.ctx 1).wait = 1 ∧ w1.tbc < (w1.ctx 1).waitOn ∧ (w1.ctx 1).waitOn < 2 ^ 64) ∧
    (k4.issues 1 = true ∧ (if 0 = 0 then (if 0 = 0 then k4.getN 7936 2 else k4.getN 7944 2) = 1 ∨ (if 0 = 0 then k4.getN 7936 2 else k4.getN 7944 2) = 3 ∨ (if 0 = 0 then k4.getN 7936 2 else k4.getN 7944 2) = 4 else (if 0 = 0 then k4.getN 7936 2 else k4.getN 7944 2) = 1 ∨ (if 0 = 0 then k4.getN 7936 2 else k4.getN 7944 2) = 2)) ∧
    ((kw k5 0).power.run = true ∧ ((kw k5 0).ctx 1).st = 2 ∧ ((kw k5 0).ctx 1).wait = 4 ∧ ((kw k5 0).ctx 1).waitOn = 0 ∧ (¬if 0 = 0 then (if 0 = 0 then (kw k5 0).getN 7936 2 else (kw k5 0).getN 7944 2) = 1 ∨ (if 0 = 0 then (kw k5 0).getN 7936 2 else (kw k5 0).getN 7944 2) = 3 ∨ (if 0 = 0 then (kw k5 0).getN 7936 2 else (kw k5 0).getN 7944 2) = 4 else (if 0 = 0 then (kw k5 0).getN 7936 2 else (kw k5 0).getN 7944 2) = 1 ∨ (if 0 = 0 then (kw k5 0).getN 7936 2 else (kw k5 0).getN 7944 2) = 2) ∧ 0 < ((kw k5 0).ctx 1).waitRd) := by and_intros <;> decide +kernel

theorem witness_SignalsAreSetReturnedAndCleared :
    (s1.power.run = true ∧ (s1.ctx 1).st = 2 ∧ (s1.ctx 1).wait = 3 ∧ (s1.ctx 1).sig &&& (s1.ctx 1).waitOn ≠ 0 ∧ 0 < (s1.ctx 1).waitRd) ∧
    (c1.issues 1 = true ∧ (c1.ctx 1).sig &&& 1 ≠ 0) ∧
    (c0.issues 1 = true ∧ (c0.ctx 1).sig &&& 0 = 0) := by and_intros <;> decide +kernel

theorem witness_CuePortRequestsArePostedAndComplete :
    (c0.issues 1 = true) :=
  by decide +kernel
end W3

namespace W3b
def rg (l : List (Nat × Nat)) : Tab Word := l.foldl (fun t p => tabSet 0#64 t p.1 (BitVec.ofNat 64 p.2)) []
def A := sramBase
def cx0 : Ctx := { pc := 0x4000000, regs := rg [(1,2^36-4),(2,2^64-3),(3,A+0x100),(4,2^36),(5,7),(6,A+0x103),(7,2^64-4)], st := 1 }
def c0 : State := up.setCtx 1 cx0
def ch : State := up.setCtx 1 { cx0 with pc := 2^36-4 }
def c1 : State := up.setCtx 1 { cx0 with step := true }
def c2 : State := (c0.writeMem 16 0 (A+0x100) [1,2,3,4,5,6,7,8,0xff]).1
def pq (op rd a b : Nat) : State := c0.setCtx 1 { cx0 with wait := 6, port := some { op := op, rd := rd, a := BitVec.ofNat 64 a, b := BitVec.ofNat 64 b } }
def nk : State := put (pq 0x4B 0 0 0) [(0x2B10,3,5)]
def o1 : Obj := (findObj true 0x1500 1).get (by decide +kernel)
def o2 : Obj := (findObj true 0x2002 6).get (by decide +kernel)
def o3 : Obj := (findObj true 0x2305 2).get (by decide +kernel)


def nk2 : State := put (pq 0x4B 0 0 0) [(0x2B11,4,5)]

def bd (op w h : Nat) : List Byte := toLE 8 (if op = 1 then 0x12345678 else A+0x100) ++ toLE 8 (A+0x200) ++ toLE 4 0 ++ toLE 4 0 ++ toLE 2 w ++ toLE 2 h ++ [BitVec.ofNat 8 op,0,0,0]
def bs : State := (c0.writeMem 16 0 (A+0x400) (bd 1 8 1)).1
def bs1 : State := bs.setCtx 1 { cx0 with regs := rg [(3,A+0x400)] }
def bl : Blit := (blitOf 1 0 (bd 1 8 1)).get (by decide +kernel)
def bs2 : State := { bs1 with cue := { bs1.cue with blits := [bl] } }
def bs4 : State := { bs1 with cue := { bs1.cue with blits := [bl,bl,bl,bl] } }
def bw (s : State) : State := s.setCtx 1 { cx0 with st := 2, wait := 5, blitErr := 3 }
def fw (w : Nat) : State := c0.setCtx 1 { cx0 with buf := [(5,7),(cx0.pc,w)] }
def r3 := 9 * 2 ^ 20 + 3 * 2 ^ 16 + 2 * 2 ^ 12
def ri := 9 * 2 ^ 20 + 3 * 2 ^ 16 + 0x108

theorem witness_CuePortRequestsArePostedAndComplete_2 :
    ((pq 73 0 2295042 3).power.run = true ∧ (pq 73 0 2295042 3).queue = [] ∧ ((pq 73 0 2295042 3).ctx 1).port = some { op := 73, rd := 0, a := 2295042#64, b := 3 } ∧ 5 ≤ (pq 73 0 2295042 3).tbc ∧ ({ op := 73, rd := 0, a := 2295042#64, b := 3 } : PortReq).a = BitVec.ofNat 64 (8965 * 256 + 2) ∧ findObj (pq 73 0 2295042 3).mgr 8965 2 = some o3 ∧ o3.d.ty.isDom = false ∧ o3.d.ty ≠ Ty.str ∧ ({ op := 73, rd := 0, a := 2295042#64, b := 3 } : PortReq).op = 73 ∧ (pq 73 0 2295042 3).admits ((pq 73 0 2295042 3).ctxTen 1) o3 true = true ∧ o3.d.acc = Acc.rs ∧ fitsTy o3.d.ty ({ op := 73, rd := 0, a := 2295042#64, b := 3 } : PortReq).b = true ∧ (pq 73 0 2295042 3).writeCode ((pq 73 0 2295042 3).ctxTen 1) true o3 (toBE o3.d.ty.size (BitVec.toNat ({ op := 73, rd := 0, a := 2295042#64, b := 3 } : PortReq).b)) = 0 ∧ (pq 73 0 2295042 3).stageFull ((pq 73 0 2295042 3).ctxTen 1) 8965 2 = false) ∧
    (nk2.power.run = true ∧ nk2.queue = [] ∧ (nk2.ctx 1).port = some { op := 75, rd := 0, a := 0, b := 0 } ∧ 5 ≤ nk2.tbc ∧ ({ op := 75, rd := 0, a := 0, b := 0 } : PortReq).op = 75 ∧ nk2.kickRight (nk2.ctxTen 1) = false) :=
  ⟨⟨by decide +kernel, by decide +kernel, by decide +kernel, by decide +kernel, by decide +kernel,
    (Option.some_get (by decide +kernel)).symm, by and_intros <;> decide +kernel⟩,
   by and_intros <;> decide +kernel⟩

theorem witness_BlitsAreQueuedExecutedAndAwaited :
    ((bw bs1).power.run = true ∧ ((bw bs1).ctx 1).st = 2 ∧ ((bw bs1).ctx 1).wait = 5 ∧ (bw bs1).blitsOf 1 = false) ∧
    (bs1.issues 1 = true ∧ bs1.blitsOf 1 = false) ∧
    (bs1.issues 1 = true ∧ BitVec.toNat ((bs1.ctx 1).reg 3) < 2 ^ 36 ∧ BitVec.toNat ((bs1.ctx 1).reg 3) % 32 = 0 ∧ (bs1.xbRead 12 (bs1.ctxTen 1) (BitVec.toNat ((bs1.ctx 1).reg 3)) 32).snd.code = 0 ∧ ((List.filter (fun b => b.x == 1) bs1.cue.blits).length < 4) ∧ blitOf (1) (bs1.ctxTen 1) (bs1.xbRead 12 (bs1.ctxTen 1) (BitVec.toNat ((bs1.ctx 1).reg 3)) 32).snd.data = some bl) ∧
    (bs2.power.run = true ∧ 5 ≤ bs2.tbc ∧ bs2.cue.blits = [bl] ∧ bl.op = 1 ∧ bl.height = 1 ∧ bl.row = 0 ∧ bl.width % 4 = 0 ∧ (bs2.writeMem 16 bl.ten bl.dst (List.replicate (bl.width / 4) (toLE 4 bl.src)).flatten).snd.code = 0) ∧
    (bs4.issues 1 = true ∧ BitVec.toNat ((bs4.ctx 1).reg 3) < 2 ^ 36 ∧ BitVec.toNat ((bs4.ctx 1).reg 3) % 32 = 0 ∧ (bs4.xbRead 12 (bs4.ctxTen 1) (BitVec.toNat ((bs4.ctx 1).reg 3)) 32).snd.code = 0 ∧ (4 ≤ (List.filter (fun b => b.x == 1) bs4.cue.blits).length)) ∧
    (bs2.issues 1 = true ∧ bs2.blitsOf 1 = true) := by and_intros <;> decide +kernel

theorem witness_NopHaltPostAndIllegalWords :
    (c0.issues 1 = true) :=
  by decide +kernel

theorem witness_FetchedWordsRunAsTheirInstruction :
    ((fw (184549376 + r3)).issues 1 = true ∧ 5 ≤ (fw (184549376 + r3)).tbc ∧ (List.find? (fun e => e.fst == ((fw (184549376 + r3)).ctx 1).pc) ((fw (184549376 + r3)).ctx 1).buf = some (((fw (184549376 + r3)).ctx 1).pc, 11 * 2 ^ 24 + (9 * 2 ^ 20 + 3 * 2 ^ 16 + 2 * 2 ^ 12)))) ∧
    ((fw (16777216 + r3)).issues 1 = true ∧ 5 ≤ (fw (16777216 + r3)).tbc ∧ (List.find? (fun e => e.fst == ((fw (16777216 + r3)).ctx 1).pc) ((fw (16777216 + r3)).ctx 1).buf = some (((fw (16777216 + r3)).ctx 1).pc, 1 * 2 ^ 24 + (9 * 2 ^ 20 + 3 * 2 ^ 16 + 2 * 2 ^ 12)))) ∧
    ((fw (956301312 + ri)).issues 1 = true ∧ 5 ≤ (fw (956301312 + ri)).tbc ∧ (List.find? (fun e => e.fst == ((fw (956301312 + ri)).ctx 1).pc) ((fw (956301312 + ri)).ctx 1).buf = some (((fw (956301312 + ri)).ctx 1).pc, 57 * 2 ^ 24 + (9 * 2 ^ 20 + 3 * 2 ^ 16 + 264)))) ∧
    ((fw (805306368 + ri)).issues 1 = true ∧ 5 ≤ (fw (805306368 + ri)).tbc ∧ (List.find? (fun e => e.fst == ((fw (805306368 + ri)).ctx 1).pc) ((fw (805306368 + ri)).ctx 1).buf = some (((fw (805306368 + ri)).ctx 1).pc, 48 * 2 ^ 24 + (9 * 2 ^ 20 + 3 * 2 ^ 16 + 264)))) ∧
    ((fw (285212672 + ri)).issues 1 = true ∧ 5 ≤ (fw (285212672 + ri)).tbc ∧ (List.find? (fun e => e.fst == ((fw (285212672 + ri)).ctx 1).pc) ((fw (285212672 + ri)).ctx 1).buf = some (((fw (285212672 + ri)).ctx 1).pc, 17 * 2 ^ 24 + (9 * 2 ^ 20 + 3 * 2 ^ 16 + 264)))) ∧
    ((fw (721420288 + ri)).issues 1 = true ∧ 5 ≤ (fw (721420288 + ri)).tbc ∧ (List.find? (fun e => e.fst == ((fw (721420288 + ri)).ctx 1).pc) ((fw (721420288 + ri)).ctx 1).buf = some (((fw (721420288 + ri)).ctx 1).pc, 43 * 2 ^ 24 + (9 * 2 ^ 20 + 3 * 2 ^ 16 + 264)))) ∧
    ((fw 1593835520).issues 1 = true ∧ 5 ≤ (fw 1593835520).tbc ∧ (List.find? (fun e => e.fst == ((fw 1593835520).ctx 1).pc) ((fw 1593835520).ctx 1).buf = some (((fw 1593835520).ctx 1).pc, 95 * 2 ^ 24))) ∧
    ((fw 1577058304).issues 1 = true ∧ 5 ≤ (fw 1577058304).tbc ∧ (List.find? (fun e => e.fst == ((fw 1577058304).ctx 1).pc) ((fw 1577058304).ctx 1).buf = some (((fw 1577058304).ctx 1).pc, 94 * 2 ^ 24))) ∧
    ((fw (1140850688 + 9 * 2 ^ 20 + 264)).issues 1 = true ∧ 5 ≤ (fw (1140850688 + 9 * 2 ^ 20 + 264)).tbc ∧ (List.find? (fun e => e.fst == ((fw (1140850688 + 9 * 2 ^ 20 + 264)).ctx 1).pc) ((fw (1140850688 + 9 * 2 ^ 20 + 264)).ctx 1).buf = some (((fw (1140850688 + 9 * 2 ^ 20 + 264)).ctx 1).pc, 68 * 2 ^ 24 + 9 * 2 ^ 20 + 264))) ∧
    ((fw (570425344 + ri)).issues 1 = true ∧ 5 ≤ (fw (570425344 + ri)).tbc ∧ (List.find? (fun e => e.fst == ((fw (570425344 + ri)).ctx 1).pc) ((fw (570425344 + ri)).ctx 1).buf = some (((fw (570425344 + ri)).ctx 1).pc, 34 * 2 ^ 24 + (9 * 2 ^ 20 + 3 * 2 ^ 16 + 264)))) ∧
    ((fw (33554432 + r3)).issues 1 = true ∧ 5 ≤ (fw (33554432 + r3)).tbc ∧ (List.find? (fun e => e.fst == ((fw (33554432 + r3)).ctx 1).pc) ((fw (33554432 + r3)).ctx 1).buf = some (((fw (33554432 + r3)).ctx 1).pc, 2 * 2 ^ 24 + (9 * 2 ^ 20 + 3 * 2 ^ 16 + 2 * 2 ^ 12)))) := by and_intros <;> decide +kernel
end W3b

namespace W4
def A := sramBase + 0x1000
def hdr (fl : Nat) (e0 e1 e2 e3 : Nat) (img : List Byte) : List Byte :=
  let h := toLE 4 0x55434B53 ++ toLE 2 1 ++ toLE 2 fl ++ toLE 4 img.length ++ toLE 4 (crc32c img) ++ toLE 4 e0 ++ toLE 4 e1 ++ toLE 4 e2 ++ toLE 4 e3
  h ++ toLE 4 (crc32c h) ++ zeros 28
def img : List Byte := [0,0,0,0x5F, 0,0,0,0x5E]
def b0 : State := put up [(0x2B00,2,A),(0x2B00,3,1)]
def b1 : State := (b0.writeMem 16 0 A (hdr 5 64 0 68 0 img ++ img)).1
def fr1 : Frame := fr 2 0x2B11 1 [1#8]
def fr2 : Frame := fr 2 0x2B11 1 [2#8]
def xs (st : Nat) : State := up0.setCtx 1 { pc := A, st := st, fault := 4 }
def ws : State := ((xs 0).writeMem 16 0 A [0,0,0,0x5E,0,0,0,0x5F]).1
def fr3 : Frame := fr 2 0x2B11 1 [3#8]
def r0 : State := put { up with refs := { up.refs with use := tabSet (dfltVal true 0x2008 1) up.refs.use (objKey 0x2008 1) (.num 3), realign := true } } [(0x2008,4,2),(0x2008,7,9)]
def r1 : State :=
  let q := put r0 [(0x2008,4,3),(0x2008,7,20)]
  { q with refs := { q.refs with use := tabSet (dfltVal true 0x2002 4) q.refs.use (objKey 0x2002 4) (.num 0) } }
def r2 : State := { put r0 [(0x2008,4,4),(0x2008,7,20),(0x2001,1,1),(0x2001,2,0)] with refs := { r0.refs with awaitPulse := true } }
def r2b : State :=
  let q := put { up with refs := { up.refs with awaitPulse := true, use := tabSet (dfltVal true 0x200E 1) [] (objKey 0x200E 1) (.num 3) } }
    [(0x200E,4,4),(0x2001,1,1),(0x2001,2,6),(0x2101,2,2),(0x2101,3,fmt 1920 1080 7 0)]
  q.setInput (q.inUse 0x200E 3) { startAt := q.tbc }
def F : BitVec 32 := BitVec.ofNat 32 (fmt 1920 1080 7 0)

theorem witness_ContextsBootAndObeyTheHost :
    (b1.power.run = true ∧ b1.power.dramOk = true ∧ b1.power.kind ≠ 3 ∧ b1.getN 11008 1 = 0 ∧ (b1.readMem 12 0 (b1.getN 11008 2) 64).snd.code = 0 ∧ b1.getN 11008 3 ≠ 0 ∧ leAt (b1.readMem 12 0 (b1.getN 11008 2) 64).snd.data 0 4 = 1430473555 ∧ 4 ≤ leAt (b1.readMem 12 0 (b1.getN 11008 2) 64).snd.data 8 4 ∧ leAt (b1.readMem 12 0 (b1.getN 11008 2) 64).snd.data 8 4 ≤ 4194240 ∧ ((b1.readMem 12 0 (b1.getN 11008 2) 64).fst.readMem 12 0 (b1.getN 11008 2 + 64) (leAt (b1.readMem 12 0 (b1.getN 11008 2) 64).snd.data 8 4)).snd.code = 0 ∧ bootImageOk (b1.readMem 12 0 (b1.getN 11008 2) 64).snd.data ((b1.readMem 12 0 (b1.getN 11008 2) 64).fst.readMem 12 0 (b1.getN 11008 2 + 64) (leAt (b1.readMem 12 0 (b1.getN 11008 2) 64).snd.data 8 4)).snd.data (leAt (b1.readMem 12 0 (b1.getN 11008 2) 64).snd.data 8 4) = true ∧ bitAt (leAt (b1.readMem 12 0 (b1.getN 11008 2) 64).snd.data 6 2) 0 = true ∧ bitAt (leAt (b1.readMem 12 0 (b1.getN 11008 2) 64).snd.data 6 2) 1 = false) ∧
    (b0.power.run = true ∧ b0.power.dramOk = true ∧ b0.power.kind ≠ 3 ∧ b0.getN 11008 1 = 0 ∧ (b0.readMem 12 0 (b0.getN 11008 2) 64).snd.code = 0 ∧ (b0.getN 11008 3 = 0 ∨ leAt (b0.readMem 12 0 (b0.getN 11008 2) 64).snd.data 0 4 ≠ 1430473555)) ∧
    ((xs 0).Executes 2 (({ atObject fr1 (11024 + 1) 1 with len := 1#16, payload := [1#8] } : Frame)) ∧ (xs 0).MayWrite (({ atObject fr1 (11024 + 1) 1 with len := 1#16, payload := [1#8] } : Frame)) (ob (xs 0) fr1) ∧ (xs 0).BridgeFree (({ atObject fr1 (11024 + 1) 1 with len := 1#16, payload := [1#8] } : Frame)) ∧ (((xs 0).ctx 1).st = 0 ∨ ((xs 0).ctx 1).st = 3)) ∧
    ((xs 1).Executes 2 (({ atObject fr2 (11024 + 1) 1 with len := 1#16, payload := [2#8] } : Frame)) ∧ (xs 1).MayWrite (({ atObject fr2 (11024 + 1) 1 with len := 1#16, payload := [2#8] } : Frame)) (ob (xs 1) fr2) ∧ (xs 1).BridgeFree (({ atObject fr2 (11024 + 1) 1 with len := 1#16, payload := [2#8] } : Frame)) ∧ (((xs 1).ctx 1).st = 1 ∨ ((xs 1).ctx 1).st = 2) ∧ ((xs 1).ctx 1).port = none) ∧
    ((xs 0).Executes 2 (({ atObject fr3 (11024 + 1) 1 with len := 1#16, payload := [3#8] } : Frame)) ∧ (xs 0).MayWrite (({ atObject fr3 (11024 + 1) 1 with len := 1#16, payload := [3#8] } : Frame)) (ob (xs 0) fr3) ∧ (xs 0).BridgeFree (({ atObject fr3 (11024 + 1) 1 with len := 1#16, payload := [3#8] } : Frame)) ∧ ((xs 0).ctx 1).st = 0) :=
  ⟨by and_intros <;> decide +kernel, by and_intros <;> decide +kernel,
   ⟨executes_of (takes_of (by decide +kernel)) (by decide +kernel), mayWrite_ob (by decide +kernel),
    by unfold State.BridgeFree; decide +kernel, by decide +kernel⟩,
   ⟨executes_of (takes_of (by decide +kernel)) (by decide +kernel), mayWrite_ob (by decide +kernel),
    by unfold State.BridgeFree; decide +kernel, by and_intros <;> decide +kernel⟩,
   ⟨executes_of (takes_of (by decide +kernel)) (by decide +kernel), mayWrite_ob (by decide +kernel),
    by unfold State.BridgeFree; decide +kernel, by decide +kernel⟩⟩

theorem witness_CandidatesQualifyAndTheSelectorLocks :
    (r0.power.run = true ∧ 5 ≤ r0.tbc ∧ r0.refs.awaitPulse = false) ∧
    (r2.power.run = true ∧ 5 ≤ r2.tbc ∧ r2.inUse (candIdx 0) 1 ≠ 0 ∧ r2.candState 0 = 4 ∧ r2.fmtPasses (0) F.toNat = true ∧ r2.refs.awaitPulse = true ∧ r2.selected = some 0 ∧ r2.refs.anchored = false ∧ ((0 : Fin 8).val < 5 ∨ (r2.input (r2.inUse (candIdx 0) 3)).startAt = r2.tbc)) ∧
    (r0.power.run = true ∧ 5 ≤ r0.tbc ∧ r0.inUse (candIdx 0) 1 ≠ 0 ∧ ({ present := true, offset := 120, fmt := F, phaseNs := 5 } : CandMeas).present = true ∧ r0.fmtPasses 0 ({ present := true, offset := 120, fmt := F, phaseNs := 5 } : CandMeas).fmt.toNat = true ∧ -Int.ofNat (1000 * r0.inUse 8194 6) ≤ ({ present := true, offset := 120, fmt := F, phaseNs := 5 } : CandMeas).offset ∧ ({ present := true, offset := 120, fmt := F, phaseNs := 5 } : CandMeas).offset ≤ Int.ofNat (1000 * r0.inUse 8194 6) ∧ r0.candState 0 = 2) ∧
    (r1.power.run = true ∧ 5 ≤ r1.tbc ∧ r1.getN 8193 1 = 0 ∧ ((r1.bestCand fun i => r1.candState i == 3) = some 0) ∧ r1.inUse 8194 4 = 0) ∧
    (r0.power.run = true ∧ 5 ≤ r0.tbc ∧ r0.refs.realign = true ∧ r0.farFromGrid = false) ∧
    (r2b.power.run = true ∧ 5 ≤ r2b.tbc ∧ r2b.inUse (candIdx 6) 1 ≠ 0 ∧ r2b.candState 6 = 4 ∧ r2b.fmtPasses (6) F.toNat = true ∧ r2b.refs.awaitPulse = true ∧ r2b.selected = some 6 ∧ r2b.refs.anchored = false ∧ ((6 : Fin 8).val < 5 ∨ (r2b.input (r2b.inUse (candIdx 6) 3)).startAt = r2b.tbc)) := by and_intros <;> decide +kernel
end W4

namespace W5
def A := sramBase + 0x1000
def x0 (wr : Bool) (m : Fin 20) : XOp := { m := m, tag := 3, addr := BitVec.ofNat 36 A, wr := wr, fetch := false, len := 4, data := if wr then [1,2,3,4] else [], unit := 0, rivals := [], others := 0, lack := 0, bankRivals := [], lock := [], upset := none }
def z : State := (up.writeMem 16 0 A [9,8,7,6]).1
def zg : State := put z [(0x2915,1,0),(0x2915,9,0xFF),(0x2915,0x11,0x8000)]
def wt (m t : Nat) : XWait := { m := m, t := t, tag := 0, addr := 0, wr := false, fetch := false, data := [], len := 4}
def zl : State := { z with xb := { z.xb with lock := some { m := 5, t := 3, tag := 0, wr := true, rest := [] } } }
def zw : State := { z with xb := { z.xb with waiting := [wt 14 3] } }
def ph (p : Nat) (b : Bank) : State := z.setPhys p b
def tst (p : Nat) : State := let q := put z [(0x2904,1,1)]; { q with bank := { q.bank with test := some { bank := 4, spare := 512, phase := p } } }
def mg : State := sess (put z [(0x2904,1,1)])
def r0 : PhaseEnd := { fails := false, count := 0, word := 0, cols := [] }
def fr1 : Frame := fr 2 0x2904 5 [0#8,4#8]
def si1 : State := ph 0 { st := 1, moveTo := some 2}
def si2 : State := ph 0 { st := 2, moveTo := some 0}
def si3 : State := ph 512 {moveTo := some 1}
def rec1 : Nat := ((List.range 64).map (fun k => 0x800000 + k)).find? recOk |>.getD 0
def en (v : Nat) : BEntry := { ten := 0, echo := 0x25, crc := 1, job := .mrProgram v }
def mr : State := { up with queue := [en rec1] }
def d0 : State := { up with power := { up.power with dramOk := false } }
def d1 : State := { up with dram := { up.dram with chans := [0,1,2,3], ecc := true } }
def d2 : State := put d1 [(0x2A30,4,0x1000000)]
def si4 : State := { d0 with dram := { d0.dram with chans := [0,1,2,3] }}

theorem witness_BanksChangeStateAndAreTested :
    ((tst 3).power.run = true ∧ 5 ≤ (tst 3).tbc ∧ (tst 3).bank.test = some { bank := 4, spare := 512, phase := 3 } ∧ ({ bank := 4, spare := 512, phase := 3 } : MTest).alone = false ∧ (tst 3).m17Refused ({ bank := 4, spare := 512, phase := 3 } : MTest).bank = false ∧ ({ bank := 4, spare := 512, phase := 3 } : MTest).phase = 3 ∧ (tst 3).xb.lock = none) ∧
    (si3.power.run = true ∧ 5 ≤ si3.tbc ∧ si3.getN 10497 1 ≠ 0 ∧ si3.bank.scrubNext = 0 ∧ (si3.phys 0).st = 0 ∧ si3.serves 0 = some 0 ∧ (si3.xbRead 19 0 sramBase 32).snd.code = 0) ∧
    (si3.power.run = true ∧ 5 ≤ si3.tbc ∧ si3.getN 10500 1 ≠ 0 ∧ si3.bank.test = none ∧ si3.testable 0 = true ∧ si3.bank.passNext ≤ 0 ∧ (∀ (c : Nat), si3.bank.passNext ≤ c → c < 0 → si3.testable c = false) ∧ si3.testSpare 0 = some 512) ∧
    ((tst 6).power.run = true ∧ 5 ≤ (tst 6).tbc ∧ (tst 6).bank.test = some { bank := 4, spare := 512, phase := 6 } ∧ ({ bank := 4, spare := 512, phase := 6 } : MTest).alone = false ∧ (tst 6).m17Refused ({ bank := 4, spare := 512, phase := 6 } : MTest).bank = false ∧ ({ bank := 4, spare := 512, phase := 6 } : MTest).phase = 6 ∧ (tst 6).xb.lock = none) ∧
    ((tst 2).power.run = true ∧ 5 ≤ (tst 2).tbc ∧ (tst 2).bank.test = some { bank := 4, spare := 512, phase := 2 } ∧ ({ bank := 4, spare := 512, phase := 2 } : MTest).alone = false ∧ (tst 2).m17Refused ({ bank := 4, spare := 512, phase := 2 } : MTest).bank = false ∧ (({ bank := 4, spare := 512, phase := 2 } : MTest).phase = 2 ∨ ({ bank := 4, spare := 512, phase := 2 } : MTest).phase = 5)) ∧
    ((tst 1).power.run = true ∧ 5 ≤ (tst 1).tbc ∧ (tst 1).bank.test = some { bank := 4, spare := 512, phase := 1 } ∧ ({ bank := 4, spare := 512, phase := 1 } : MTest).alone = false ∧ (tst 1).m17Refused ({ bank := 4, spare := 512, phase := 1 } : MTest).bank = false ∧ ({ bank := 4, spare := 512, phase := 1 } : MTest).phase = 1 ∧ r0.fails = false) ∧
    (si1.power.run = true ∧ 5 ≤ si1.tbc ∧ (si1.phys 0).moveTo = some 2 ∧ si1.serves 0 = some 0) :=
  ⟨by and_intros <;> decide +kernel, by and_intros <;> decide +kernel,
   ⟨by decide +kernel, by decide +kernel, by decide +kernel, by decide +kernel, by decide +kernel, by decide +kernel,
    fun c _ h => absurd h (Nat.not_lt_zero c), by decide +kernel⟩,
   by and_intros <;> decide +kernel⟩

theorem witness_RepairRecordTakesTheLowestFreeSlot :
    (mr.power.open_ = true ∧ mr.queue = [en rec1] ∧ (en rec1).job = Job.mrProgram rec1 ∧ (en rec1).res = none ∧ (en rec1).cue = none ∧ (en rec1).bcast = false ∧ 5 ≤ mr.tbc ∧ mr.repairRefuses rec1 = false) := by and_intros <;> decide +kernel

theorem witness_DramTrainsRefreshesAndPatrols :
    (up.power.run = true) ∧
    (si4.power.run = true ∧ si4.power.dramOk = false ∧ si4.mgr = true ∧ si4.dram.ecc = false ∧ si4.dram.chans = [0, 1, 2, 3]) ∧
    (d2.power.run = true ∧ 5 ≤ d2.tbc ∧ List.idxOf? (0) d2.dram.chans = some 0 ∧ d2.dram.ecc = true ∧ d2.dramU ≠ 0 ∧ d2.bank.ue = [] ∧ d2.bank.ce = []) ∧
    (d0.power.run = true ∧ d0.power.dramOk = false ∧ d0.mgr = true ∧ d0.dram.ecc = false) := by and_intros <;> decide +kernel
end W5

namespace W5b
def mg : State := sess (put up [(0x1F20,0,1)])
def cd (s : State) (g : Frame) : Nat := match (s.heard g).writeCheck g.ten.toNat (s.tenant g.ten.toNat).session g.index.toNat g.sub.toNat g.payload with | .inr o => 1000+o.sub | .inl e => e
def fr1 : Frame := fr 2 0x2904 5 [0#8,4#8]
def fr2 : Frame := fr 2 0x2906 1 [0#8,0x80#8,0,1#8]

theorem witness_TriggersAndSubscriptionActionsEnterTheBridgeQueue_3 :
    (mg.Executes 2 fr2 ∧ mg.MayWrite fr2 (ob mg fr2) ∧ mg.HasRoom fr2 ∧ fr2 = atObject fr2 10502 1 ∧ (mg.heard fr2).repairRefuses (ofBE fr2.payload) = false) :=
  ⟨executes_of (takes_of (by decide +kernel)) (by decide +kernel), mayWrite_ob (by decide +kernel), by unfold State.HasRoom; decide +kernel,
   by and_intros <;> decide +kernel⟩

theorem witness_BanksChangeStateAndAreTested_2 :
    (mg.power.run = true ∧ 5 ≤ mg.tbc ∧ fr1 = atObject fr1 10500 5 ∧ mg.Executes 2 fr1 ∧ mg.MayWrite fr1 (ob mg fr1) ∧ mg.BridgeFree fr1 ∧ mg.bank.test = none ∧ ofBE fr1.payload < 512 ∧ (mg.heard fr1).testSpare (ofBE fr1.payload) = some 512 ∧ (mg.heard fr1).testable (ofBE fr1.payload) = true) :=
  ⟨by decide +kernel, by decide +kernel, by decide +kernel, executes_of (takes_of (by decide +kernel)) (by decide +kernel),
   mayWrite_ob (by decide +kernel), by unfold State.BridgeFree; decide +kernel, by and_intros <;> decide +kernel⟩
end W5b

namespace W5c
def A := sramBase + 0x1000
def x0 (wr : Bool) (m : Fin 20) : XOp := { m := m, tag := 3, addr := BitVec.ofNat 36 A, wr := wr, fetch := false, len := 4, data := if wr then [1,2,3,4] else [], unit := 0, rivals := [], others := 0, lack := 0, bankRivals := [], lock := [], upset := none }
def z : State := (up.writeMem 16 0 A [9,8,7,6]).1
def zg : State := put z [(0x2915,1,0),(0x2915,9,0xFF),(0x2915,0x11,0x8000)]
def wt (m t : Nat) : XWait := { m := m, t := t, tag := 0, addr := 0, wr := false, fetch := false, data := [], len := 4}
def zl : State := { z with xb := { z.xb with lock := some { m := 5, t := 3, tag := 0, wr := true, rest := [] } } }
def zw : State := { z with xb := { z.xb with waiting := [wt 14 3] } }

theorem witness_CrossbarTransactionsArePerformedAndAnswered :
    (z.power.run = true ∧ 5 ≤ z.tbc ∧ (x0 false 16).upset = none ∧ (x0 false 16).lock = [] ∧ z.xb.lock = none ∧ 0 < (x0 false 16).len ∧ sramBase ≤ (x0 false 16).addr.toNat ∧ (x0 false 16).addr.toNat + (x0 false 16).len ≤ sramBase + sramSize ∧ z.bankRefuses (((x0 false 16).addr.toNat - sramBase) >>> 17) = false ∧ (z.phys (z.servedBy (((x0 false 16).addr.toNat - sramBase) >>> 17))).st = 0 ∧ (xbSlices (↑(x0 false 16).m) (((x0 false 16).addr.toNat - sramBase) >>> 23)).isSome = true ∧ z.bank.ue = [] ∧ z.bank.ce = [] ∧ z.gates ↑(x0 false 16).m = [] ∧ (x0 false 16).wr = false) ∧
    (zw.power.run = true ∧ 5 ≤ zw.tbc ∧ xbClass 14 = 2 ∧ zw.xb.waiting = [wt 14 3] ∧ (wt 14 3).m = 14 ∧ (wt 14 3).t = 3 ∧ (wt 14 3).promoted = false) ∧
    (zl.power.run = true ∧ 5 ≤ zl.tbc ∧ zl.xb.lock = some { m := 5, t := 3, tag := 0, wr := true, rest := [] } ∧ zl.xb.waiting = [] ∧ zl.xb.ready = []) ∧
    (z.power.run = true ∧ 5 ≤ z.tbc ∧ (x0 true 16).upset = none ∧ (x0 true 16).lock = [] ∧ z.xb.lock = none ∧ 0 < (x0 true 16).len ∧ sramBase ≤ (x0 true 16).addr.toNat ∧ (x0 true 16).addr.toNat + (x0 true 16).len ≤ sramBase + sramSize ∧ z.bankRefuses (((x0 true 16).addr.toNat - sramBase) >>> 17) = false ∧ (z.phys (z.servedBy (((x0 true 16).addr.toNat - sramBase) >>> 17))).st = 0 ∧ (xbSlices (↑(x0 true 16).m) (((x0 true 16).addr.toNat - sramBase) >>> 23)).isSome = true ∧ z.bank.ue = [] ∧ z.bank.ce = [] ∧ z.gates ↑(x0 true 16).m = [] ∧ (x0 true 16).wr = true ∧ (x0 true 16).data.length = (x0 true 16).len) ∧
    (zg.power.run = true ∧ 5 ≤ zg.tbc ∧ (x0 false 5).upset = none ∧ (x0 false 5).lock = [] ∧ zg.xb.lock = none ∧ 0 < (x0 false 5).len ∧ sramBase ≤ (x0 false 5).addr.toNat ∧ (x0 false 5).addr.toNat + (x0 false 5).len ≤ sramBase + sramSize ∧ zg.bankRefuses (((x0 false 5).addr.toNat - sramBase) >>> 17) = false ∧ (zg.phys (zg.servedBy (((x0 false 5).addr.toNat - sramBase) >>> 17))).st = 0 ∧ (xbSlices (↑(x0 false 5).m) (((x0 false 5).addr.toNat - sramBase) >>> 23)).isSome = true ∧ zg.bank.ue = [] ∧ zg.bank.ce = [] ∧ (x0 false 5).wr = false ∧ gateRefusal (zg.gates ↑(x0 false 5).m) { m := ↑(x0 false 5).m, tag := (x0 false 5).tag.toNat, addr := (x0 false 5).addr.toNat, len := (x0 false 5).len, wr := false, fetch := (x0 false 5).fetch, data := (x0 false 5).data } (x0 false 5).addr.toNat = some 3) := by and_intros <;> decide +kernel
end W5c

namespace W6
def meas : FrameMeas := { w := 1920, h := 1080, lines := 1125, pixels := 2200, inter := false, period := 540000, accepted := true, pid := none, psf := false, mismatch := false, hdr := false, crcLines := 2 }
def raw0 : Raw := { bits := 10, half := false, c0 := [], c1 := [], c2 := [] }
def i1 : State := put up [(0x2103, 1, 1), (0x2103, 2, 1)]
def i2 : State := i1.setInput 3 { seen := some (1920,1080,1125,false), periods := [540000], rate := 1 }
def fmt1 : Nat := fmt 1920 1080 8 0
def i3 : State := (put i1 [(0x2103,2,3),(0x2103,3,fmt1),(0x2103,4,3)]).setInput 3 { slots := [{},{},{}] , dead := true }
def i4 : State := (put i1 [(0x2103,2,3),(0x2103,3,fmt1)]).setInput 3 { slots := [{full := true}], writer := some 0, newest := some 0, begun := true, dead := false }
def i4b : State := (put i1 [(0x2103,2,3),(0x2103,3,fmt1)]).setInput 3 { slots := [], dead := false }
def i5 : State := i1.setInput 3 { slots := [{full := true, seq := 7}], newest := some 0, dead := false, holding := true, lossAt := 900000 }
def i6 : State := i1.setInput 40 { holding := true, lossAt := 900000 }
def r1 : State := (put i5 [(0x2305,1,0),(0x2305,2,3)])
def r2 : State := (put i5 [(0x2305,1,0),(0x2305,2,3)]).setReader 5 { last := some (3,7,7) }
def r3 : State := (put i5 [(0x2305,1,0xFF),(0x2305,2,3)])
def a1 : State := (put up [(0x2104,1,6),(0x2105,1,6),(0x2106,1,6),(0x2107,1,6)])
def a2 : State := a1.setInput 4 { hpdPulse := some 2000000}
def meas2 : FrameMeas := { meas with period := 450000 }
def i2b : State := i1.setInput 3 { seen := some (1920,1080,1125,false), periods := [450000], rate := 1 }

theorem witness_InputsLockHoldAndLoseTheirSignal :
    (i1.power.run = true ∧ 5 ≤ i1.tbc ∧ i1.getBit (8448 + 3) 2 0 = true ∧ (i1.input 3).seen ≠ some (meas.w, meas.h, meas.lines, meas.inter) ∧ (i1.input 3).writer = none) ∧
    (i4.power.run = true ∧ 5 ≤ i4.tbc ∧ (i4.input 3).writer = some 0 ∧ (i4.input 3).begun = true) ∧
    (i2.power.run = true ∧ 5 ≤ i2.tbc ∧ i2.getBit (8448 + 3) 2 0 = true ∧ (i2.input 3).seen = some (meas.w, meas.h, meas.lines, meas.inter) ∧ (i2.input 3).writer = none ∧ meas.inter = false ∧ meas.accepted = true ∧ i2.getBit (8448 + 3) 2 1 = false ∧ 6 = rateCodeOf (meanOf (List.take 16 (meas.period :: (i2.input 3).periods))) ∧ fmtAccepted (i2.input 3).rate meas.w meas.h 6 false false (meas.pixels * meas.lines * Config.ticksPerSec / max 1 meas.period) = true ∧ 6 ≠ 0 ∧ i2.oversize (3) meas.w meas.h = false) ∧
    (i4b.power.run = true ∧ 5 ≤ i4b.tbc ∧ i4b.getBit (8448 + 3) 2 0 = true ∧ i4b.writable 3 = true ∧ i4b.inFields 3 = false ∧ (i4b.input 3).begun = false ∧ (∀ k < 8, i4b.candOfInput k 3 = false) ∧ i4b.pickSlot 3 = none) ∧
    (up.power.run = true ∧ 5 ≤ up.tbc ∧ up.getBit (8448 + 3) 2 0 = false ∧ (0 : Fin 5) ∈ ([0] : List (Fin 5)) ∧ modeAccepts (up.getN (8448 + 3) 1) 0 = true ∧ (∀ r ∈ ([0] : List (Fin 5)), modeAccepts (up.getN (8448 + 3) 1) r = true → r ≤ 0) ∧ up.dpMember 3 = false ∧ (up.getN (8448 + 3) 1 = 6 → up.dpExists (3 / 4) = true)) ∧
    (i3.power.run = true ∧ 5 ≤ i3.tbc ∧ i3.getBit (8448 + 3) 2 0 = true ∧ i3.writable 3 = true ∧ i3.inFields 3 = false ∧ (i3.input 3).begun = false ∧ (∀ k < 8, i3.candOfInput k 3 = false) ∧ i3.pickSlot 3 = some 0 ∧ ((i3.input 3).slot 0).full = false) ∧
    (i5.power.run = true ∧ 5 ≤ i5.tbc ∧ (i5.input 3).holding = true ∧ (i5.input 3).lossAt + i5.inHoldMs 3 * Config.ticksPerMs < 2 ^ 64) ∧
    (i6.power.run = true ∧ 5 ≤ i6.tbc ∧ (i6.input 40).holding = true ∧ (i6.input 40).lossAt + i6.inHoldMs 40 * Config.ticksPerMs < 2 ^ 64) := by and_intros <;> decide +kernel

theorem witness_ReadersTakeFramesAndReceiversAnswerAux :
    (r3.power.run = true ∧ 5 ≤ r3.tbc ∧ (r3.output (r3.getN (8960 + 5) 1)).stays = [] ∧ (∀ p ∈ r3.readers, p.2.left = none) ∧ (r3.getN (8960 + 5) 1 = 255 ∨ (r3.input (r3.vlSource 5)).dead = true ∨ (r3.input (r3.vlSource 5)).newest = none)) ∧
    ((r1.power.run = false ∨ r1.dpExists 0 = false)) ∧
    ((a2.input (4 * 1)).hpdPulse = some 2000000) ∧
    (r1.power.run = true ∧ 5 ≤ r1.tbc ∧ (r1.output (r1.getN (8960 + 5) 1)).stays = [] ∧ (∀ p ∈ r1.readers, p.2.left = none) ∧ r1.getN (8960 + 5) 1 ≠ 255 ∧ (r1.input (r1.vlSource 5)).dead = false ∧ (r1.input (r1.vlSource 5)).newest = some 0 ∧ r1.inBlend (r1.vlSource 5) = false ∧ r1.vlSource 5 < 32) ∧
    (a1.power.run = true ∧ a1.dpExists 1 = true) := by and_intros <;> decide +kernel
end W6

namespace W7
def f1080 : Nat := fmt 1920 1080 8 0
def o1 : State := put up [(0x2205,1,1),(0x2205,2,f1080),(0x2205,0xB,4),(0x2205,0xC,2),(0x2205,0xD,10)]
def o2 : State := (put o1 [(0x2205,4,0x4|||2|||1)]).setOutput 5 { sinkRate := 2, sinkLanes := 4, on := true, tim := timingFrom f1080 0 0 0, next := 1200000 }
def o3 : State := (put o2 [(0x2205,0x13,1)]).setOutput 5 { on := true, tim := timingFrom f1080 0 0 0, next := 1200000, under := [(1,2,3)], retryAt := some 3000000 }
def ff (s : State) : State := { s with power := { s.power with firstFrame := true } }
def o4 : State := ff o2
def o5 : State := ff o3
def o6 : State := (put (ff o2) [(0x2205,0x12,2)]).setOutput 5 { on := true, tim := timingFrom f1080 0 0 0, next := 1200000, under := [(1,2,3)], run := 1 }
def o7 : State := (put (ff o2) [(0x2205,0x12,2)]).setOutput 5 { on := true, tim := timingFrom f1080 0 0 0, next := 900000, fallback := 2, sawForce := true }
def o8 : State := (put (ff o2) [(0x2205,0x12,2),(0x2802,0xA,5*256+1),(0x2802,0xC,3),(0x2802,0xD,10),(0x2802,0xE,1000),(0x2505,2,0x0202)]).setOutput 5 { on := true, tim := timingFrom f1080 0 0 0, next := 900000, fallback := 0, zones := [(1,{n := 4, r := 4000, g := 8000, b := 100, y := 3000, max := 40000})] }
def sk : SinkCaps := { rate := 2, lanes := 4, altScrambler := false, edid := List.replicate 128 7#8 }

def w1 := fr 2 0x2205 0x13 [1#8]
def w0 := fr 2 0x2205 0x13 [0#8]
def s7 : State := sess o7

theorem witness_LinksTrainAndFollowTheSink :
    (5 ≤ o2.tbc ∧ o2.getBit (8704 + 5) 4 2 = true ∧ o2.getN (8704 + 5) 1 = 1 ∧ (List.find? (fun x => x.snd) ((trainOrder (min (o2.getN (8704 + 5) 12) (o2.output 5).sinkRate) (min (o2.getN (8704 + 5) 11) (o2.output 5).sinkLanes)).zip [true]) = some ((2, 4), true))) ∧
    (5 ≤ o2.tbc ∧ o2.power.enabled = true ∧ o2.getN (8704 + 5) 1 = 1 ∧ o2.getBit (8704 + 5) 4 1 = true) ∧
    (5 ≤ o2.tbc ∧ o2.getBit (8704 + 5) 4 2 = true ∧ o2.getN (8704 + 5) 1 = 1 ∧ (List.find? (fun x => x.snd) ((trainOrder (min (o2.getN (8704 + 5) 12) (o2.output 5).sinkRate) (min (o2.getN (8704 + 5) 11) (o2.output 5).sinkLanes)).zip [false, false, false]) = none)) ∧
    (5 ≤ o1.tbc ∧ o1.power.enabled = true ∧ o1.getN (8704 + 5) 1 = 1 ∧ o1.gangMember 5 = false ∧ o1.getBit (8704 + 5) 4 1 = false) ∧
    (5 ≤ o3.tbc ∧ (o3.output 5).retryAt = some 3000000 ∧ o3.power.run = true) := by and_intros <;> decide +kernel

theorem witness_OutputsStartFramesSendSegmentsAndFallBack :
    (atObject w1 (8704 + 5) 19 = atObject w1 (8704 + 5) 19 ∧ s7.Executes 2 (atObject w1 (8704 + 5) 19) ∧ s7.MayWrite (atObject w1 (8704 + 5) 19) (ob s7 (atObject w1 (8704 + 5) 19)) ∧ s7.BridgeFree (atObject w1 (8704 + 5) 19)) ∧
    (o2.power.enabled = true ∧ 5 ≤ o2.tbc ∧ (o2.output 5).on = true) ∧
    (o4.power.enabled = true ∧ o4.power.run = true ∧ (o4.output 5).on = true ∧ (o4.output 5).retime = none ∧ o4.power.firstFrame = true ∧ (o4.output 5).next < 2 ^ 64) ∧
    (o2.power.run = true ∧ 5 ≤ o2.tbc ∧ (o2.output 5).on = true ∧ (o2.output 5).retime = none ∧ o2.getBit (8704 + 5) 4 8 = false ∧ 0 < (o2.output 5).tim.h ∧ 64 * 0 < (o2.output 5).tim.w ∧ (o2.output 5).fallback = 0 ∧ (o2.output 5).stays = [] ∧ o2.layersOf 5 = []) :=
  ⟨⟨by decide +kernel, executes_of (takes_of (by decide +kernel)) (by decide +kernel), mayWrite_ob (by decide +kernel),
    by unfold State.BridgeFree; decide +kernel⟩,
   by and_intros <;> decide +kernel⟩
end W7

namespace W8
def b1 : State := put up [(0x2100,2,3)]
def b2 : State := ((b1.setB 0x2741 0 (toLE 4 (1 <<< 28 ||| 0 <<< 16))).setFeed 0 { carried := 3, going := true, fifo := [[1,2],[3,4]], last := [9] })
def b3 : State := b1.setFeed 0 { mutes := [(2, 900000)] }
def b4 : State := b1.setB 0x2741 0 (toLE 4 (1 <<< 28 ||| 1))
def l16 : List Int := List.replicate 16 77
def form3 : AudioForm := { channels := 3 }
def c1 : State := put up [(0x2702,1,1),(0x2702,2,2),(0x2702,3,8),(0x2702,4,24),(0x2702,5,0xF),(0x2702,6,3)]
def c2 : State := (put c1 [(0x2702,2,1),(0x2702,1,2),(0x2702,0x12,0xF)]).setSap 2 { tx := [[5,6,7],[1]], sent := [some 1] }
def c3 : State := (put up [(0x274A,1,3),(0x274A,2,0x10000000),(0x274A,3,0x1000),(0x274A,4,2),(0x274A,5,24)]).setRing 2 { buf := [[1,2],[3,4],[5,6]], prod := 5 }
def c4 : State := sess (put up [(0x274A,1,2),(0x274A,8,2)])
def c5 : State := sess (put up [(0x274A,1,2)])
def fr1 : Frame := fr 2 0x274A 0x0B [1#8]
def fr2 : Frame := fr 2 0x274A 0x0B [0#8]

theorem witness_AudioArrivesIsMeasuredAndReachesTheMatrix :
    (b2.power.run = true ∧ 7 ≤ b2.tbc ∧ b2.power.enabled = true ∧ (∀ (d : Nat), d < 896 → b2.destOn d = false ∧ (b2.dest d).gain = 0) ∧ (∀ (r : Nat), r < 16 → b2.getN (10056 + r) 1 = 0) ∧ samplePeriodAt b2.anchor b2.matrixRate (match b2.audio.now with | some t => t + 1 | none => b2.tbc) < 2 ^ 64 ∧ b2.carried 0 ≠ 0 ∧ b2.feedDirect 0 = true ∧ (b2.feed 0).going = true ∧ (b2.feed 0).fifo = [[1, 2], [3, 4]]) ∧
    (b1.power.run = true ∧ 7 ≤ b1.tbc ∧ (b1.sap 0).rxCode ≠ nominalCode (min maxU32 (roundDiv ((48001 - 1) * 2700000000) 27000000))) ∧
    (b2.power.run = true ∧ 7 ≤ b2.tbc ∧ b2.dpMember 3 = false ∧ declaredNonAudio (b2.input 3).rate form3 0 = 0#8 ∧ (b2.feed 3).mutes = [] ∧ (∀ (p : Nat), p < 8 → preamble (List.map (fun c => if bitAt (deEmbedded (b2.input 3).rate form3).toNat c = true then clip24 (l16.getD c 0) else 0) (List.range 16)) p = false) ∧ b2.feedDirect 3 = false) ∧
    (b4.power.run = true ∧ 7 ≤ b4.tbc ∧ srcAsrc (b4.srcEntry 0) = true) ∧
    (b3.power.run = true ∧ 7 ≤ b3.tbc ∧ (List.find? (fun m => m.fst == 2) (b3.feed 0).mutes = some (2, 900000)) ∧ (2, 900000).snd + b3.getN 10048 4 * Config.ticksPerMs < 2 ^ 64) ∧
    (b1.power.run = true ∧ 7 ≤ b1.tbc ∧ b1.dpMember 0 = false ∧ bitAt (declaredNonAudio (b1.input 0).rate form3 4#8).toNat 2 = true) ∧
    (b1.power.run = true ∧ 7 ≤ b1.tbc ∧ (b1.sap 0).rxCode = nominalCode (min maxU32 (roundDiv ((48001 - 1) * 2700000000) 1))) ∧
    (b1.power.run = true ∧ 7 ≤ b1.tbc ∧ b1.dpMember 0 = false ∧ declaredNonAudio (b1.input 0).rate form3 0 = 0#8 ∧ (b1.feed 0).mutes = [] ∧ (∀ (p : Nat), p < 8 → preamble (List.map (fun c => if bitAt (deEmbedded (b1.input 0).rate form3).toNat c = true then clip24 (l16.getD c 0) else 0) (List.range 16)) p = false) ∧ b1.feedDirect 0 = true ∧ (b1.feed 0).fifo.length < 64) := by and_intros <;> decide +kernel

theorem witness_SerialPortsAndRingsMoveFrames :
    (c4.power.run = true ∧ 7 ≤ c4.tbc ∧ fr2 = ({ atObject fr2 (10056 + 2) 11 with len := 1#16, payload := [if false = true then 1#8 else 0#8] } : Frame) ∧ c4.Executes 2 fr2 ∧ c4.MayWrite fr2 (ob c4 fr2) ∧ c4.BridgeFree fr2) ∧
    (c1.power.run = true ∧ 7 ≤ c1.tbc ∧ c1.getN (9984 + 2) 1 ≠ 0 ∧ (!sapMaster (c1.getN (9984 + 2) 1) && 192 != c1.getN (9984 + 2) 3 * c1.getN (9984 + 2) 4) = false) ∧
    (c2.power.run = true ∧ 7 ≤ c2.tbc ∧ c2.getN (9984 + 2) 2 ≠ 0 ∧ c2.getN (9984 + 2) 17 ≠ 1 ∧ (c2.sap 2).tx = [[5, 6, 7], [1]] ∧ (sapMaster (c2.getN (9984 + 2) 2) = true ∨ 192 = c2.getN (9984 + 2) 3 * c2.getN (9984 + 2) 4)) ∧
    (c4.power.run = true ∧ 7 ≤ c4.tbc ∧ fr1 = ({ atObject fr1 (10056 + 2) 11 with len := 1#16, payload := [if true = true then 1#8 else 0#8] } : Frame) ∧ c4.Executes 2 fr1 ∧ c4.MayWrite fr1 (ob c4 fr1) ∧ c4.BridgeFree fr1 ∧ c4.getN (10056 + 2) 1 = 2) ∧
    (c2.power.run = true ∧ 7 ≤ c2.tbc ∧ sapMaster (c2.getN (9984 + 2) (if true = true then 2 else 1)) = false ∧ c2.getN (9984 + 2) (if true = true then 2 else 1) ≠ 0) ∧
    (c1.power.run = true ∧ 7 ≤ c1.tbc ∧ c1.getN (9984 + 2) 1 ≠ 0 ∧ (!sapMaster (c1.getN (9984 + 2) 1) && 191 != c1.getN (9984 + 2) 3 * c1.getN (9984 + 2) 4) = true) ∧
    (c1.power.run = true ∧ 7 ≤ c1.tbc ∧ sapMaster (c1.getN (9984 + 2) (if false = true then 2 else 1)) = false ∧ c1.getN (9984 + 2) (if false = true then 2 else 1) ≠ 0) ∧
    (c3.power.run = true ∧ 7 ≤ c3.tbc ∧ c3.getN (10056 + 2) 1 = 3 ∧ 0 < c3.frameBytes 2 ∧ 0 < c3.ringFrames 2 ∧ (c3.xbRead 10 (c3.ringTag 2) (c3.getN (10056 + 2) 2 + 4) 4).snd.code = 0 ∧ (((c3.xbRead 10 (c3.ringTag 2) (c3.getN (10056 + 2) 2 + 4) 4).fst.writeMem 10 (c3.ringTag 2) (c3.getN (10056 + 2) 2 + 64 + (c3.ring 2).prod % c3.ringFrames 2 * c3.frameBytes 2) (List.flatMap (fun f => List.flatMap (sampleBytes (c3.getN (10056 + 2) 5)) f) (List.take (min (min (min (min 2 32) (c3.ring 2).buf.length) (c3.ringFrames 2 - (c3.ring 2).prod % c3.ringFrames 2)) (c3.ringFrames 2 - ((c3.ring 2).prod + 2 ^ 32 - ofLE (c3.xbRead 10 (c3.ringTag 2) (c3.getN (10056 + 2) 2 + 4) 4).snd.data) % 2 ^ 32)) (c3.ring 2).buf))).snd.code = 0)) :=
  ⟨⟨by decide +kernel, by decide +kernel, by decide +kernel, executes_of (takes_of (by decide +kernel)) (by decide +kernel),
    mayWrite_ob (by decide +kernel), by unfold State.BridgeFree; decide +kernel⟩,
   by and_intros <;> decide +kernel, by and_intros <;> decide +kernel,
   ⟨by decide +kernel, by decide +kernel, by decide +kernel, executes_of (takes_of (by decide +kernel)) (by decide +kernel),
    mayWrite_ob (by decide +kernel), by unfold State.BridgeFree; decide +kernel, by decide +kernel⟩,
   by and_intros <;> decide +kernel⟩
end W8

namespace W9
def l0 : State := put up [(0x2804,1,1),(0x2804,2,0x800000),(0x2804,3,0),(0x2804,7,500),(0x2804,0x10,2000),(0x2804,0x0F,0xFF),(0x2804,0x11,10000)]
def l0b : State := put l0 [(0x2860,1,100)]
def l1 : State := l0.setLamp 4 { g := 5000, x := 400000, drive := { mode := 1, dac := 3, duty := 9000, cur := 44 }, rise := some { mode := 2 }, lastPass := some 900000 }
def l2 : State := l0.setLamp 4 { opened := true, fails := 8, retryAt := 1500000 }
def l2b : State := l0.setLamp 4 { opened := true, fails := 8, retryAt := 1500000, x := 7 }
def l3 : State := (put l0 [(0x2804,8,0x20),(0x2860,7,12000),(0x2860,8,100)]).setLamp 4 { retestAt := 20 }
def l4 : State := { (put l0 [(0x2852,1,1),(0x2804,8,0x8000)]) with queue := [{ ten := 0, echo := 0x25, crc := 1, job := .neighbourTest }] }
def lm (b : Bool) : LampMeas := { pass := b, current := 500, lvmon := 30 }

theorem witness_LampTicksAndPeriodsDriveTheChannels :
    (l0.power.enabled = true ∧ l0.power.run = true ∧ l0.pwmStart 4 7 < 2 ^ 64 ∧ (l0.lamp 4).drive.mode ≠ 1) ∧
    (l0.power.enabled = true ∧ l0.power.run = true ∧ 7 ≤ l0.lamps.evalAt + riseAfter ∧ l0.lamps.evalAt + riseAfter < 2 ^ 64) ∧
    (l1.power.enabled = true ∧ l1.power.run = true ∧ l1.pwmStart 4 7 < 2 ^ 64 ∧ (l1.lamp 4).drive.mode = 1 ∧ (l1.lamp 4).held = false ∧ (lm true).pass = true ∧ (l1.lamp 4).opened = false ∧ (l1.lamp 4).lev ≠ 0 ∧ l1.getN (10240 + 4) 1 = 1 ∧ 3 * 65536 * (l1.pwmPeriod 4).2 ≤ 2 * (l1.lamp 4).drive.duty * (l1.pwmPeriod 4).1) ∧
    (l1.power.enabled = true ∧ l1.power.run = true ∧ (l1.lamp 4).lastPass = some 900000 ∧ (l1.lamp 4).opened = false ∧ (l1.lamp 4).lev ≠ 0 ∧ l1.getN (10240 + 4) 1 = 1 ∧ 900000 + 500 * Config.ticksPerMs < 2 ^ 64) ∧
    (l0b.power.enabled = true ∧ l0b.power.run = true ∧ samplePeriodAt l0b.anchor 1000 (match l0b.lamps.now with | some t => t + 1 | none => l0b.tbc) < 2 ^ 64 ∧ 0 < l0b.getN 0x2860 1 ∧ (∀ k, k < 48 → l0b.lampPrio k ≤ 7)) := by and_intros <;> decide +kernel

theorem witness_LampFaultsAreRetestedAndSensorsSampled :
    (l3.power.enabled = true ∧ l3.lampBit (4) 5 = true ∧ 4 * l3.stringMv 12000 < l3.getN (10240 + 4) 17) ∧
    (l0.power.run = true ∧ 7 ≤ l0.tbc) ∧
    (l4.power.open_ = true ∧ l4.power.neighbourOk = true ∧ 7 ≤ l4.tbc ∧ ((l4.queue.any fun e => e.res.isNone && e.job == Job.neighbourTest) = true)) ∧
    (l2.power.enabled = true ∧ l2.power.run = true ∧ (l2.lamp 4).opened = true ∧ (l2.lamp 4).retryAt < 2 ^ 64) ∧
    (l3.power.enabled = true ∧ l3.lampBit (4) 5 = true ∧ l3.getN (10240 + 4) 17 ≤ 4 * l3.stringMv 30) := by and_intros <;> decide +kernel
end W9

namespace W10
def k0 : State := put up0 [(0x1F00,4,1),(0x1F00,6,2700)]
def k1 : State := { (put k0 [(0x1F00,2,2)]) with kick := some { ten := 0, own := some none } }
def k2 : State := { k0 with staging := [{ idx := 0x2800, sub := 2, ten := 0, val := .num 5 }, { idx := 0x2200, sub := 2, ten := 0, val := .num 5 }] }
def p1 : State := { (put k0 [(0x1F00,2,1)]) with kick := some { ten := 0, selfIn := false } }
def p2 : State := { (put k0 [(0x1F00,2,1)]) with kick := some { ten := 0 }, staging := [{ idx := 0x2800, sub := 2, ten := 0, val := .num 5 }] }
def p3 : State := { (put k0 [(0x1F00,2,1)]) with kick := some { ten := 0, own := some none }, queue := [{ten := 0, echo := 0x55, crc := 3, job := .prepare}] }
def p4 : State := { (put k0 [(0x1F00,2,1)]) with kick := some { ten := 0, own := some (some { check := 3, inst := 4, demand := 5, cap := 6, obj := 0x220002}) } }
def p5 : State := { (put k0 [(0x1F00,2,3)]) with kick := some { ten := 0, own := some none, plan := [(.device, 1200000)] }, queue := [{ten := 0, echo := 0x65, crc := 3, job := .kickoff none false}] }
def p6 : State := { (put k0 [(0x1F08,2,1)]) with whis := some { ten := 0, plan := [(.device, 1200000)] }, queue := [{ten := 0, echo := 0x75, crc := 3, job := .whistle none false}] }
def fr1 : Frame := fr 5 0 0 []

theorem witness_PreparesKickoffsAndWhistlesAreAccepted :
    (k1.Executes 6 (fr 6 0 0 (toBE 8 5000000)) ∧ (k1.tenant (fr 6 0 0 (toBE 8 5000000)).ten.toNat).session = true ∧ k1.kickRight (fr 6 0 0 (toBE 8 5000000)).ten.toNat = true ∧ k1.HasRoom (fr 6 0 0 (toBE 8 5000000)) ∧ k1.power.open_ = true ∧ k1.power.enabled = true ∧ k1.power.run = true ∧ k1.spans.members = [] ∧ bitAt (k1.getN 7936 4) 0 = true ∧ (fr 6 0 0 (toBE 8 5000000)).len = 8#16 ∧ k1.koState = 2 ∧ k1.kick = some { own := some none } ∧ ({ own := some none } : Kick).scope = [] ∧ ({ own := some none } : Kick).lost = false ∧ ({ own := some none } : Kick).kicked = false ∧ ({ own := some none } : Kick).fixed = none ∧ ({ own := some none } : Kick).sent = false) ∧
    (k0.Executes 5 fr1 ∧ (k0.tenant fr1.ten.toNat).session = true ∧ k0.kickRight fr1.ten.toNat = true ∧ k0.HasRoom fr1 ∧ k0.power.open_ = true ∧ k0.power.enabled = true ∧ k0.power.run = true ∧ k0.spans.members = [] ∧ bitAt (k0.getN 7936 4) 0 = true ∧ fr1.len = 0#16 ∧ k0.koAccepts false = true) ∧
    (k0.Executes 7 (fr 7 0 0 (toBE 8 5000000)) ∧ (k0.tenant (fr 7 0 0 (toBE 8 5000000)).ten.toNat).session = true ∧ k0.kickRight (fr 7 0 0 (toBE 8 5000000)).ten.toNat = true ∧ k0.HasRoom (fr 7 0 0 (toBE 8 5000000)) ∧ k0.power.open_ = true ∧ k0.power.enabled = true ∧ k0.power.run = true ∧ k0.spans.members = [] ∧ bitAt (k0.getN 7936 4) 0 = true ∧ (fr 7 0 0 (toBE 8 5000000)).len = 8#16 ∧ k0.whAccepts = true) :=
  ⟨⟨executes_of (takes_of (by decide +kernel)) (by decide +kernel), by decide +kernel, by decide +kernel,
    by unfold State.HasRoom; decide +kernel, by and_intros <;> decide +kernel⟩,
   ⟨executes_of (takes_of (by decide +kernel)) (by decide +kernel), by decide +kernel, by decide +kernel,
    by unfold State.HasRoom; decide +kernel, by and_intros <;> decide +kernel⟩,
   ⟨executes_of (takes_of (by decide +kernel)) (by decide +kernel), by decide +kernel, by decide +kernel,
    by unfold State.HasRoom; decide +kernel, by and_intros <;> decide +kernel⟩⟩

theorem witness_KickoffsArePreparedAndApplied :
    (p3.power.run = true ∧ p3.power.enabled = true ∧ p3.power.open_ = true ∧ 4 ≤ p3.tbc ∧ p3.kick = some { own := some none } ∧ p3.koState = 1 ∧ ({ own := some none } : Kick).selfIn = true ∧ ({ own := some none } : Kick).scope = [] ∧ ({ own := some none } : Kick).absent = none ∧ ({ own := some none } : Kick).left = [] ∧ ({ own := some none } : Kick).lost = false ∧ ({ own := some none } : Kick).own = some none ∧ ({ own := some none } : Kick).kicked = false) ∧
    (p5.power.run = true ∧ p5.power.enabled = true ∧ p5.power.open_ = true ∧ 4 ≤ p5.tbc ∧ p5.kick = some { own := some none, plan := [(Part.device, 1200000)] } ∧ p5.mgr = true ∧ ({ own := some none, plan := [(Part.device, 1200000)] } : Kick).plan = [(Part.device, 1200000)] ∧ ({ own := some none, plan := [(Part.device, 1200000)] } : Kick).waits = false ∧ ({ own := some none, plan := [(Part.device, 1200000)] } : Kick).armed = [] ∧ p5.whis = none ∧ (p5.koState = 3 ∨ p5.koState = 4) ∧ p5.koEntries { own := some none, plan := [(Part.device, 1200000)] } = []) ∧
    (p4.power.run = true ∧ p4.power.enabled = true ∧ p4.power.open_ = true ∧ 4 ≤ p4.tbc ∧ p4.kick = some { own := some (some { check := 3, inst := 4, demand := 5, cap := 6, obj := 2228226 }) } ∧ p4.koState = 1 ∧ ({ own := some (some { check := 3, inst := 4, demand := 5, cap := 6, obj := 2228226 }) } : Kick).selfIn = true ∧ ({ own := some (some { check := 3, inst := 4, demand := 5, cap := 6, obj := 2228226 }) } : Kick).scope = [] ∧ ({ own := some (some { check := 3, inst := 4, demand := 5, cap := 6, obj := 2228226 }) } : Kick).absent = none ∧ ({ own := some (some { check := 3, inst := 4, demand := 5, cap := 6, obj := 2228226 }) } : Kick).left = [] ∧ ({ own := some (some { check := 3, inst := 4, demand := 5, cap := 6, obj := 2228226 }) } : Kick).lost = false ∧ ({ own := some (some { check := 3, inst := 4, demand := 5, cap := 6, obj := 2228226 }) } : Kick).own = some (some { check := 3, inst := 4, demand := 5, cap := 6, obj := 2228226 })) ∧
    (p1.power.run = true ∧ p1.power.enabled = true ∧ p1.power.open_ = true ∧ 4 ≤ p1.tbc ∧ p1.kick = some { selfIn := false } ∧ p1.koState = 1 ∧ ({ selfIn := false } : Kick).own = none ∧ ({ selfIn := false } : Kick).selfIn = false) ∧
    (p6.power.run = true ∧ p6.power.enabled = true ∧ p6.power.open_ = true ∧ 4 ≤ p6.tbc ∧ p6.whis = some { plan := [(Part.device, 1200000)] } ∧ ({ plan := [(Part.device, 1200000)] } : Whis).plan = [(Part.device, 1200000)] ∧ Part.device = Part.device ∧ ({ plan := [(Part.device, 1200000)] } : Whis).waits = false ∧ ({ plan := [(Part.device, 1200000)] } : Whis).armed = [] ∧ ({ plan := [(Part.device, 1200000)] } : Whis).entries = []) := by and_intros <;> decide +kernel
end W10

namespace W11
def pt (s : State) (p : Nat) (x : Port) : State := s.setPort p x
def wk (s : State) : State := { s with straps := { worker := true } }
def n0 : State := put up [(0x2C01,1,1),(0x2C01,2,1)]
def n1 : State := pt (put n0 [(0x2C01,2,3)]) 1 { lanes := 4, seq := 250 }
def n2 : State := pt (put n0 [(0x2C01,2,3)]) 1 { lanes := 4, missed := 1, peer := some { role := 1, depth := 1, lanes := 4, serial := 77, bus := 0, state := 3 } }
def n3 : State := wk (pt (put n0 [(0x1200,4,1),(0x1200,5,3),(0x1200,2,9),(0x1200,3,1),(0x2C01,2,4)]) 1 { lanes := 2, seq := 255, t12 := some (3,1000,2000), t3 := some (9,5000), offs := [5,6] })
def n3b : State := put n3 [(0x1200,5,2)]
def n3c : State := { n3b with spans := { n3b.spans with retryAt := some 500 } }
def n4 : State := { n1 with spans := { n1.spans with members := [{ addr := 1, serial := 5, port := 1 },{ addr := 2, serial := 6, port := 1 }] } }
def n5 : State := { n4 with spans := { n4.spans with rolls := [{ gen := 7, at_ := 10, auto_ := false }] } }
def n6 : State := sess n4
def eRoll : BEntry := { ten := 0, echo := 0xA5, crc := 1, job := .rollCall }
def n5q : State := { n5 with queue := [eRoll] }
def par : Peer := { role := 1, depth := 7, lanes := 4, serial := 5, bus := 0, state := 3 }
def n8 : State := wk (pt n0 1 { lanes := 2, peer := some par })
def pk (ch : BitVec 8) (c : BitVec 32) : SpanPkt := { ch := ch, more := true, len := 3, seq := 0#8, data := [1#8,2#8,3#8], crc := c, framed := true, from_ := 0 }
def gc : BitVec 32 := BitVec.ofNat 32 (crc32c [1#8,2#8,3#8])
def n7 : State := pt n1 1 { lanes := 4, chans := [(1, { unacked := [{ seq := 4, more := false, data := [1#8] },{ seq := 5, more := false, data := [1#8] }], progress := 2000000, seq := 6 })], inn := [(0, some 2)] }
def he : HelloMsg := { version := 1#8, role := 1#8, depth := 0xFF#8, lanes := 2#8, serial := 77#64, bus := 0#8, state := 1#8 }
def key : SubKey := { w := 9#8, ten := 3#8, idx := 0x2100#16, sub := 3#8 }
def key0 : SubKey := { w := 9#8, ten := 0#8, idx := 0x2100#16, sub := 3#8 }
def m1 : State := { n3 with spans := { n3.spans with subs := [{ ten := 0, idx := 0x2100, sub := 3 }] } }
def m2 : State := { n1 with queue := [{ ten := 0, echo := 0x25, crc := 1, job := .subAct true 9 0x2100 3 }] }
def m3 : State := { n1 with spans := { n1.spans with mirrors := [{ w := 9, ten := 0, idx := 0x2100, sub := 3 }], members := [{ addr := 9, serial := 6, port := 1 }] } }
def m4 : State := { m3 with tbc := 900000000 }
def tv : State := (put n3 [(0x2142,1,1),(0x2142,3,3),(0x2142,6,8),(0x2142,7,1),(0x2142,8,7)]).setB 0x2741 0 [0#8]
def tv2 : State := tv.setInput 34 { spoiled := true }
def fr1 : Frame := fr 0 0 0 []
def fg : Frame := { fr1 with gap := 5 }

theorem witness_SpanLinksComeUpAndGoDown :
    (n1.power.run = true ∧ 7 ≤ n1.tbc ∧ (n1.port 1).lanes ≠ 0 ∧ (n1.port 1).missed = 0) ∧
    (n2.power.run = true ∧ 7 ≤ n2.tbc ∧ (n2.port 1).lanes ≠ 0 ∧ n2.upPort ≠ some 1 ∧ n2.spans.members = [] ∧ n2.tunnelsBy 1 = [] ∧ (n2.port 1).missed ≠ 0) ∧
    (n0.power.run = true ∧ 7 ≤ n0.tbc ∧ (n0.port 1).lanes = 0 ∧ n0.getN (11264 + 1) 1 ≠ 0 ∧ lanesOf 15#4 ≠ 0) ∧
    (n1.power.run = true ∧ 7 ≤ n1.tbc ∧ (n1.port 1).lanes ≠ 0 ∧ n1.upPort ≠ some 1 ∧ n1.spans.members = [] ∧ n1.tunnelsBy 1 = []) := by and_intros <;> decide +kernel

theorem witness_TimeIsExchangedAcrossALink :
    (n1.power.run = true ∧ 7 ≤ n1.tbc ∧ n1.upPort = none ∧ n1.downPorts = [1] ∧ (n1.port 1).lanes ≠ 0) ∧
    (n1.power.run = true ∧ 7 ≤ n1.tbc ∧ n1.getN (11264 + 1) 2 = 3 ∧ (n1.port 1).lanes ≠ 0) ∧
    (n3.power.run = true ∧ 7 ≤ n3.tbc ∧ n3.upPort = some 1 ∧ (n3.port 1).t12 = some (3, 1000, 2000) ∧ (n3.port 1).t3 = some ((9#8).toNat, 5000) ∧ n3.memberState = 3) ∧
    (n3.power.run = true ∧ 7 ≤ n3.tbc ∧ n3.upPort = some 1 ∧ n3.downPorts = [] ∧ (n3.port 1).lanes ≠ 0) := by and_intros <;> decide +kernel

theorem witness_PacketsFollowCreditsAndSequences :
    (n1.power.run = true ∧ 7 ≤ n1.tbc ∧ (n1.port 1).lanes ≠ 0 ∧ chanBudget (1) ≠ 0 ∧ ((n1.port 1).chan (1)).waiting = []) ∧
    (n1.power.run = true ∧ 7 ≤ n1.tbc ∧ (n1.port 1).lanes ≠ 0 ∧ (pk (1#8) gc).ch.toNat ≠ 0 ∧ n1.packetFault (1) (pk (1#8) gc) = none) ∧
    (n7.power.run = true ∧ 7 ≤ n7.tbc ∧ (n7.port 1).lanes ≠ 0 ∧ ((n7.port 1).chan 1).unacked ≠ [] ∧ ((1 : Fin 3).val ≠ 2 ∨ n7.mgr = false) ∧ ((n7.port 1).chan 1).progress + 540 < 2 ^ 64) ∧
    (n1.power.run = true ∧ 7 ≤ n1.tbc ∧ (n1.port 1).lanes ≠ 0 ∧ n1.packetFault (1) (pk (8#8) gc) = some 38) ∧
    (n1.power.run = true ∧ 7 ≤ n1.tbc ∧ (n1.port 1).lanes ≠ 0 ∧ n1.packetFault (1) (pk (1#8) (gc + 1#32)) = some 34) ∧
    (n7.power.run = true ∧ 7 ≤ n7.tbc ∧ (n7.port 1).lanes ≠ 0 ∧ n7.packetFault (1) (pk (8#8) (gc + 1#32)) = some 34 ∧ 8 ≤ (pk (8#8) gc).ch.toNat ∧ chanBudget 8 ≠ 0 ∧ (pk (8#8) gc).len ≤ 512 ∧ (((n7.port 1).chan 8).got + 65536 - ((n7.port 1).chan 8).gave) % 65536 + credits (pk (8#8) gc).len ≤ chanBudget 8) := by and_intros <;> decide +kernel

theorem witness_WorkersJoinAnswerTheRollCallAndLeave :
    (n3c.power.run = true ∧ 7 ≤ n3c.tbc ∧ (n3c.port 1).lanes ≠ 0 ∧ n3c.mgr = false ∧ n3c.upPort = some 1 ∧ n3c.spans.retryAt = some 500 ∧ 500 ≤ n3c.tbc) ∧
    (n3.power.run = true ∧ 7 ≤ n3.tbc ∧ (n3.port 1).lanes ≠ 0 ∧ n3.mgr = false ∧ n3.upPort = some 1 ∧ (∀ (q : Nat), q < 4 → (n3.port q).peer = none)) ∧
    (n5.power.run = true ∧ 7 ≤ n5.tbc ∧ (n5.port 1).lanes ≠ 0 ∧ n5.mgr = true ∧ n5.getN (11264 + 1) 2 = 3 ∧ n5.spans.rolls = [{ gen := 7, at_ := 10, auto_ := false }] ∧ ({ gen := 7, at_ := 10, auto_ := false } : Roll).gen = (7#32).toNat ∧ (List.find? (fun m => m.addr == byteAt (padTo 16 [1#8, 1#8]) 0) n5.spans.members = some { addr := 1, serial := 5, port := 1 }) ∧ { addr := 2, serial := 6, port := 1 } ∈ n5.spans.members ∧ ({ addr := 2, serial := 6, port := 1 } : Member).addr ≠ ({ addr := 1, serial := 5, port := 1 } : Member).addr ∧ ((({ gen := 7, at_ := 10, auto_ := false } : Roll).got.any fun g => g.fst == ({ addr := 2, serial := 6, port := 1 } : Member).addr) = false)) ∧
    (n4.power.run = true ∧ 7 ≤ n4.tbc ∧ (n4.port 1).lanes ≠ 0 ∧ n4.mgr = true ∧ n4.spans.members ≠ []) ∧
    (n1.power.run = true ∧ 7 ≤ n1.tbc ∧ (n1.port 1).lanes ≠ 0 ∧ n1.mgr = true ∧ n1.getN (11264 + 1) 2 = 3 ∧ n1.spans.members = [] ∧ n1.assign (77#64).toNat (255#8).toNat = some 1) ∧
    (n1.power.run = true ∧ 7 ≤ n1.tbc ∧ (n1.port 1).lanes ≠ 0 ∧ helloOk he = true ∧ n1.helloOpen 1 he.role.toNat he.state.toNat = true ∧ (n1.port 1).peer = none) ∧
    (n2.power.run = true ∧ 7 ≤ n2.tbc ∧ (n2.port 1).lanes ≠ 0 ∧ n2.mgr = true ∧ (∀ (q : Nat), q < 4 → (n2.port q).lanes = 0 ∨ (n2.port q).peer ≠ none)) ∧
    (n5q.power.run = true ∧ 7 ≤ n5q.tbc ∧ (n5q.port 1).lanes ≠ 0 ∧ n5q.mgr = true ∧ n5q.spans.rolls = [{ gen := 7, at_ := 10, auto_ := false }] ∧ ({ gen := 7, at_ := 10, auto_ := false } : Roll).auto_ = false ∧ ({ gen := 7, at_ := 10, auto_ := false } : Roll).at_ + 20 * Config.ticksPerMs ≤ n5q.tbc ∧ n5q.queue = [eRoll] ∧ eRoll.job = .rollCall ∧ eRoll.res = none ∧ eRoll.cue = none ∧ eRoll.bcast = false) ∧
    (n3.power.run = true ∧ 7 ≤ n3.tbc ∧ (n3.port 1).lanes ≠ 0 ∧ n3.mgr = false ∧ n3.upPort = some 1 ∧ n3.memberState = 3) ∧
    (n6.power.run = true ∧ 7 ≤ n6.tbc ∧ (n6.port 1).lanes ≠ 0 ∧ n6.Executes 10 (fr 10 0 0 []) ∧ (n6.tenant (fr 10 0 0 []).ten.toNat).session = true ∧ (fr 10 0 0 []).len = 0#16 ∧ n6.HasRoom (fr 10 0 0 []) ∧ n6.power.open_ = true ∧ n6.spans.members ≠ []) ∧
    (n3b.power.run = true ∧ 7 ≤ n3b.tbc ∧ (n3b.port 1).lanes ≠ 0 ∧ n3b.mgr = false ∧ n3b.upPort = some 1 ∧ n3b.memberState = 2 ∧ n3b.serial < 2 ^ 64 ∧ n3b.power.enabled = true ∧ (roundDivI (meanOffset (n3b.port 1).offs) 32 + ({ a := 0, turns := 0 } : GrantClock).turns * 2 ^ 35).natAbs ≤ 270 ∧ 270 < (roundDivI (meanOffset (n3b.port 1).offs) 32 + ({ a := 0, turns := 1 } : GrantClock).turns * 2 ^ 35).natAbs) ∧
    (n8.power.run = true ∧ 7 ≤ n8.tbc ∧ (n8.port 1).lanes ≠ 0 ∧ (∀ q, q < 4 → (n8.port q).lanes = 0 ∨ (n8.port q).peer ≠ none) ∧ n8.mgr = false ∧ n8.upPort = none ∧ (n8.port 1).peer = some par ∧ par.parent = true ∧ ((n8.port 0).lanes = 0)) :=
  ⟨by and_intros <;> decide +kernel, by and_intros <;> decide +kernel, by and_intros <;> decide +kernel, by and_intros <;> decide +kernel,
   by and_intros <;> decide +kernel, by and_intros <;> decide +kernel, by and_intros <;> decide +kernel, by and_intros <;> decide +kernel,
   by and_intros <;> decide +kernel,
   ⟨by decide +kernel, by decide +kernel, by decide +kernel, executes_of (takes_of (by decide +kernel)) (by decide +kernel),
    by decide +kernel, by decide +kernel, by unfold State.HasRoom; decide +kernel, by and_intros <;> decide +kernel⟩,
   by and_intros <;> decide +kernel⟩

theorem witness_SubscriptionsAndMirrorsFollowTheirMessages :
    (m4.power.run = true ∧ 7 ≤ m4.tbc ∧ (m4.port 1).lanes ≠ 0 ∧ m4.mgr = true ∧ m4.getN (11264 + 1) 2 = 3 ∧ m4.spans.mirrors = [{ w := 9, ten := 0, idx := 8448, sub := 3 }] ∧ isMirrorOf key0 { w := 9, ten := 0, idx := 8448, sub := 3 } = true ∧ ({ w := 9, ten := 0, idx := 8448, sub := 3 } : Mirror).snooped + 10 * Config.ticksPerSec ≤ m4.tbc) ∧
    (m1.power.run = true ∧ 7 ≤ m1.tbc ∧ (m1.port 1).lanes ≠ 0 ∧ m1.mgr = false ∧ m1.upPort = some 1 ∧ key0.w.toNat = m1.ownAddr ∧ m1.spans.subs.any (isSubOf key0) = true) ∧
    (m1.power.run = true ∧ 7 ≤ m1.tbc ∧ (m1.port 1).lanes ≠ 0 ∧ m1.mgr = false ∧ m1.upPort = some 1 ∧ key0.w.toNat = m1.ownAddr ∧ m1.spans.subs = [{ ten := 0, idx := 8448, sub := 3 }] ∧ isSubOf key0 { ten := 0, idx := 8448, sub := 3 } = true ∧ ({ ten := 0, idx := 8448, sub := 3 } : Sub).idx ≠ 5120 ∧ m1.spans.evicted.length < 64) ∧
    (m3.power.run = true ∧ 7 ≤ m3.tbc ∧ (m3.port 1).lanes ≠ 0 ∧ m3.mgr = true ∧ m3.getN (11264 + 1) 2 = 3 ∧ m3.spans.mirrors = [{ w := 9, ten := 0, idx := 8448, sub := 3 }] ∧ isMirrorOf key0 { w := 9, ten := 0, idx := 8448, sub := 3 } = true ∧ (({ w := 9, ten := 0, idx := 8448, sub := 3 } : Mirror).filled = false ∨ ({ w := 9, ten := 0, idx := 8448, sub := 3 } : Mirror).val ≠ [1#8, 2#8])) ∧
    (n3.power.run = true ∧ 7 ≤ n3.tbc ∧ (n3.port 1).lanes ≠ 0 ∧ n3.mgr = false ∧ n3.upPort = some 1 ∧ key0.w.toNat = n3.ownAddr ∧ (List.find? (fun x => x.drop_) n3.spans.subs = none)) ∧
    (m1.power.run = true ∧ 7 ≤ m1.tbc ∧ (m1.port 1).lanes ≠ 0 ∧ m1.mgr = false ∧ m1.memberState = 3 ∧ m1.spans.subs = [{ ten := 0, idx := 8448, sub := 3 }] ∧ ({ ten := 0, idx := 8448, sub := 3 } : Sub).ten = 0 ∧ ({ ten := 0, idx := 8448, sub := 3 } : Sub).idx = key0.idx.toNat ∧ ({ ten := 0, idx := 8448, sub := 3 } : Sub).sub = key0.sub.toNat ∧ (({ ten := 0, idx := 8448, sub := 3 } : Sub).sent = false ∨ m1.subValue ({ ten := 0, idx := 8448, sub := 3 } : Sub).ten ({ ten := 0, idx := 8448, sub := 3 } : Sub).idx ({ ten := 0, idx := 8448, sub := 3 } : Sub).sub ≠ ({ ten := 0, idx := 8448, sub := 3 } : Sub).val ∧ ({ ten := 0, idx := 8448, sub := 3 } : Sub).at_ + 10 * Config.ticksPerMs ≤ m1.tbc)) ∧
    (m2.power.run = true ∧ 7 ≤ m2.tbc ∧ (m2.port 1).lanes ≠ 0 ∧ m2.mgr = true ∧ m2.getN (11264 + 1) 2 = 3 ∧ m2.queue = [{ ten := 0, echo := 37, crc := 1, job := Job.subAct true 9 8448 3 }] ∧ subActMatch key0 { ten := 0, echo := 37, crc := 1, job := Job.subAct true 9 8448 3 } = true ∧ ({ ten := 0, echo := 37, crc := 1, job := Job.subAct true 9 8448 3 } : BEntry).cue = none ∧ ({ ten := 0, echo := 37, crc := 1, job := Job.subAct true 9 8448 3 } : BEntry).bcast = false ∧ isAddJob { ten := 0, echo := 37, crc := 1, job := Job.subAct true 9 8448 3 } = true ∧ m2.spans.mirrors.any (isMirrorOf key0) = false) ∧
    ((sess n3).power.run = true ∧ 7 ≤ (sess n3).tbc ∧ ((sess n3).port 1).lanes ≠ 0 ∧ (sess n3).mgr = false ∧ (sess n3).upPort = some 1 ∧ key0.w.toNat = (sess n3).ownAddr ∧ (sess n3).subCode key0 = 0 ∧ (sess n3).spans.subs.any (isSubOf key0) = false) := by and_intros <;> decide +kernel

theorem witness_RelayedFramesAndTunnelsAreServed :
    (tv.strobed = true ∧ tv.link.storm = false ∧ tv.straps.linkmode ≠ 3#2 ∧ 7 ≤ tv.tbc ∧ tv.getN (8512 + 2) 1 ≠ 0 ∧ tv.getBit (8512 + 2) 7 3 = false ∧ tv.getN (8512 + 2) 3 ≠ 1 ∧ tv.getBit (8512 + 2) 7 2 = false ∧ (tv.feed (32 + 2)).mutes = [] ∧ tv.feedDirect (32 + 2) = false ∧ (∀ (q : Nat), q < 8 → preamble (List.map (fun c => if bitAt ((3#16).toNat &&& 2 ^ tv.getN (8512 + 2) 6 - 1) c = true then clip24 ((List.replicate 16 5).getD c 0) else 0) (List.range 16)) q = false)) ∧
    (tv.strobed = true ∧ tv.link.storm = false ∧ tv.straps.linkmode ≠ 3#2 ∧ 7 ≤ tv.tbc ∧ tv.getN (8512 + 2) 1 ≠ 0 ∧ tv.getBit (8512 + 2) 7 3 = false ∧ tv.getN (8512 + 2) 3 ≠ 2 ∧ tv.getBit (8512 + 2) 7 1 = false) ∧
    (tv.strobed = true ∧ tv.link.storm = false ∧ tv.straps.linkmode ≠ 3#2 ∧ 7 ≤ tv.tbc ∧ tv.getN (8512 + 2) 1 ≠ 0 ∧ tv.getBit (8512 + 2) 7 3 = false ∧ tv.getN (8512 + 2) 3 ≠ 2 ∧ 0 < 4 ∧ tv.writable (32 + 2) = true ∧ (tv.input (32 + 2)).spoiled = false) ∧
    (n3.strobed = true ∧ n3.link.storm = false ∧ n3.straps.linkmode ≠ 3#2 ∧ fg.payload = [] ∧ fg.len = 0#16 ∧ fg.crc.toNat = crc32c (frameBody 0 fg) ∧ fg.ten.toNat < 128 ∧ fg.mgr ≠ 63#8 ∧ fg.wrk ≠ 255#8 ∧ n3.queue = []) ∧
    (tv2.strobed = true ∧ tv2.link.storm = false ∧ tv2.straps.linkmode ≠ 3#2 ∧ 7 ≤ tv2.tbc ∧ tv2.getN (8512 + 2) 1 ≠ 0 ∧ tv2.getBit (8512 + 2) 7 3 = false ∧ tv2.getN (8512 + 2) 3 ≠ 2 ∧ (tv2.input (32 + 2)).spoiled = true) := by and_intros <;> decide +kernel
end W11

namespace W12
def js : List State := [Tap.reset,.idle,.selectDr,.captureDr,.shiftDr,.exit1Dr,.updateDr,.captureIr,.shiftIr,.exit1Ir,.exit2Dr].flatMap (fun t => [0xFF#8, 0x00#8].map (fun ir => { (put up [(0x1500,9,15)]) with jtag := { tap := t, ir := ir, irShift := [true,false,true,true,false,false,true,false], shift := List.replicate 516 true } }))
def jn (n : Nat) : State := js.getD n up

theorem witness_TheJtagPortFollowsItsTapController :
    ((jn 14).jtagOn = true ∧ (jn 14).jtag.tap = Tap.captureIr) ∧
    ((jn 16).jtagOn = true ∧ (jn 16).jtag.tap = Tap.shiftIr) ∧
    ((jn 9).jtagOn = true ∧ (jn 9).jtag.tap = Tap.shiftDr ∧ scanInstr (jn 9).jtag.ir = true) ∧
    ((jn 7).jtagOn = true ∧ (jn 7).jtag.tap = Tap.captureDr ∧ scanInstr (jn 7).jtag.ir = true) ∧
    ((jn 6).jtagOn = true ∧ (jn 6).jtag.tap = Tap.captureDr ∧ scanInstr (jn 6).jtag.ir = false) ∧
    ((jn 0).jtagOn = true) ∧
    ((jn 10).jtagOn = true ∧ (jn 10).jtag.tap.next true = Tap.updateDr) ∧
    ((jn 8).jtagOn = true ∧ (jn 8).jtag.tap = Tap.shiftDr ∧ scanInstr (jn 8).jtag.ir = false ∧ (jn 8).jtag.tap.next false = Tap.shiftDr) := by and_intros <;> decide +kernel
end W12

end Sys2Proof.Tests
end

section
/-! The object dictionary (chapter 3): the staging store holds one entry per object (R86), and block transfers of a free bridge
are carried out and answered within their own frame (R19, R93, R94, R97). -/
namespace Sys2Proof.Proofs.ObjectDictionary
open Sys2Proof Sys2Proof.Machine

/-! ### Searching a list after a replacement -/

section
variable {α : Type} {p q : α → Bool} {e : α}

theorem find?_mapIf_same (he : p e = true) {l : List α} (hl : (l.find? p).isSome = true) :
    (mapIf p (fun _ => e) l).find? p = some e := by
  induction l with
  | nil => simp at hl
  | cons a l ih =>
    by_cases ha : p a = true
    · simp [mapIf, ha, he]
    · simp only [List.find?_cons, ha] at hl
      simpa [mapIf, ha] using ih hl

theorem find?_mapIf_other (he : q e = false) (hpq : ∀ a, p a = true → q a = false) (l : List α) :
    (mapIf p (fun _ => e) l).find? q = l.find? q := by
  induction l with
  | nil => rfl
  | cons a l ih =>
    by_cases ha : p a = true
    · simpa [mapIf, ha, he, hpq a ha] using ih
    · cases hqa : q a
      · simpa [mapIf, ha, hqa] using ih
      · simp [mapIf, ha, hqa]

end

/-! ### The staging store -/

/-- Whether a staged entry is that of an object, as `State.stagedAt` and `State.stage` ask it. -/
def isEntryOf (i j : Nat) (x : Staged) : Bool := x.idx == i && x.sub == j

theorem stagedAt_eq_find? (s : State) (i j : Nat) : s.stagedAt i j = s.staging.find? (isEntryOf i j) := rfl

theorem isEntryOf_other {i j k l : Nat} (h : (k, l) ≠ (i, j)) (x : Staged) (hx : isEntryOf i j x = true) : isEntryOf k l x = false := by
  simp only [isEntryOf, Bool.and_eq_true, beq_iff_eq] at hx
  obtain ⟨rfl, rfl⟩ := hx
  have : ¬ (x.idx = k ∧ x.sub = l) := by rintro ⟨rfl, rfl⟩; exact h rfl
  simpa [isEntryOf] using this

/-- An entry of the object is replaced where it stands; else the new one comes last. -/
theorem stage_staging (s : State) (t i j : Nat) (v : Val) :
    (s.stage t i j v).staging =
      if (s.stagedAt i j).isSome then mapIf (isEntryOf i j) (fun _ => { idx := i, sub := j, ten := t, val := v }) s.staging
      else s.staging ++ [{ idx := i, sub := j, ten := t, val := v }] := by
  unfold State.stage
  split <;> rfl

theorem stage_frame (s : State) (t i j : Nat) (v : Val) : s.stage t i j v = { s with staging := (s.stage t i j v).staging } := by
  unfold State.stage
  split <;> rfl

@[simp] theorem stage_queue (s : State) (t i j : Nat) (v : Val) : (s.stage t i j v).queue = s.queue := by rw [stage_frame]

@[simp] theorem stage_getN (s : State) (t i j : Nat) (v : Val) (k l : Nat) : (s.stage t i j v).getN k l = s.getN k l := by
  rw [stage_frame]; rfl

theorem stagedAt_stage_same (s : State) (t i j : Nat) (v : Val) :
    (s.stage t i j v).stagedAt i j = some { idx := i, sub := j, ten := t, val := v } := by
  have he : isEntryOf i j { idx := i, sub := j, ten := t, val := v } = true := by simp [isEntryOf]
  rw [stagedAt_eq_find?, stage_staging]
  split
  next h => exact find?_mapIf_same he h
  next h =>
    have hnone : s.staging.find? (isEntryOf i j) = none := by simpa [stagedAt_eq_find?] using h
    simp [List.find?_append, hnone, he]

theorem stagedAt_stage_other (s : State) (t i j : Nat) (v : Val) {k l : Nat} (h : (k, l) ≠ (i, j)) :
    (s.stage t i j v).stagedAt k l = s.stagedAt k l := by
  have he : isEntryOf k l { idx := i, sub := j, ten := t, val := v } = false := isEntryOf_other h _ (by simp [isEntryOf])
  rw [stagedAt_eq_find?, stage_staging]
  split
  · exact find?_mapIf_other he (isEntryOf_other h) _
  · simp [List.find?_append, he, stagedAt_eq_find?]

/-- Settles O14: the entry of the object is replaced or added, and no entry of another object is touched. -/
theorem stagingHoldsOneEntryPerObject : Obligations.StagingHoldsOneEntryPerObject :=
  fun s t i j v => ⟨stagedAt_stage_same s t i j v, fun _ _ h => stagedAt_stage_other s t i j v h⟩

/-! ### Bridge work done within its own frame (R19) -/

/-- With nothing in the queue and the bridge serving, quick work is done on edge E. -/
theorem postWork_done {s s' : State} {r : Req} {j : Job} {q : Res} (hqueue : s.queue = []) (hopen : s.power.open_ = true)
    (htime : r.f.inTime = true) (hquick : s.quick j = true) (hdo : s.bridgeDo (r.entry j) = (s', some q)) : s.postWork r j = s'.answerNow r j q := by
  have hroom : s.noRoom r = false := by
    simp [State.noRoom, State.queueRoom, State.hostEntries, hqueue, Config.queueMax, Config.queueTenantMax]
  simp [State.postWork, hroom, hqueue, hopen, htime, hquick, hdo]

/-- What a finished exchange leaves of a result that was held only for its response: nothing (R56). -/
theorem answered_release {s : State} (hqueue : s.queue = []) (e : BEntry) (f : Frame) (status echo : Nat) (payload : List Byte)
    (g : State → State) :
    State.answered { s with queue := s.queue ++ [e] } f status echo payload (fun t => g (t.release e)) =
      s.answered f status echo payload g := by
  have hs : s = { s with queue := [] } := by rw [← hqueue]
  rw [hs]
  simp only [State.answered, State.release, State.drive, State.clock, List.nil_append, List.erase_cons_head]
  rfl

/-- A frame whose work the bridge does in time: the result is answered, its entry is released at the settle edge, and a request that
changes state becomes the replay record (R52, R56). -/
theorem serve_bridgeWork {s s' : State} {ty : Nat} {f : Frame} {late : Nat} {j : Job} {payload : List Byte}
    (h : s.Executes ty f) (hqueue : s.queue = []) (hopen : s.power.open_ = true) (htime : f.inTime = true)
    (hty : (s.heard f).doType { ty := ty, f := f } late = (s.heard f).postWork { ty := ty, f := f } j)
    (hquick : (s.heard f).quick j = true)
    (hdo : (s.heard f).bridgeDo (Req.entry { ty := ty, f := f } j) = (s', some { status := 0, payload := payload }))
    (hqueue' : s'.queue = []) (hturn : s'.getN 0x1101 1 = s.getN 0x1101 1) :
    s.serve ty f late none = s'.answered f 0 (echoOf ty f) payload (fun t => if changes ty then t.replayed ty f else t) := by
  let r : Req := { ty := ty, f := f }
  let e : BEntry := { r.entry j with res := some { status := 0, payload := payload } }
  have hv : (s.heard f).doType r late =
      { st := { s' with queue := s'.queue ++ [e] }, status := 0, payload := payload
        commit := fun t => t.release e, cut := fun t => t.event 0 } := by
    rw [hty, postWork_done (s := s.heard f) (r := { ty := ty, f := f }) hqueue hopen htime hquick hdo]
    simp [State.answerNow, htime, r, e]
  rw [State.serve_answered s ty f late h _ hv rfl hturn, ← answered_release hqueue' e]
  simp [State.recordReplay, State.replayed, Req.echo, Req.crc, echoOf]

/-! ### Where the dictionary has no RS object (chapter 19) -/

/-- The indices that steps 11 to 13 and the bridge single out for a block transfer: WH_EPOCH, the memory window, the contexts. -/
def indicesWithoutRs : List Nat := [0x1F08, 0x2B09, 0x2B10, 0x2B11, 0x2B12, 0x2B13]

theorem rows_without_rs : ∀ i ∈ indicesWithoutRs, (findRow true i).all (fun r => r.subs.all (fun d => d.acc != .rs)) = true := by
  decide +kernel

theorem of_notMem_indicesWithoutRs {i : Nat} (h : i ∉ indicesWithoutRs) : i ≠ 0x1F08 ∧ i ≠ 0x2B09 ∧ inRange i 0x2B10 4 = false := by
  simp only [indicesWithoutRs, List.mem_cons, List.not_mem_nil, not_or] at h
  simp [inRange]
  omega

/-- A subindex has a descriptor of its row, or the one of the entry count. -/
theorem findSub_desc {r : Row} {i j : Nat} {o : Obj} (h : findSub r i j = some o) : o.d ∈ r.subs ∨ ∃ n, o.d = countDesc n := by
  unfold findSub at h
  dsimp only at h
  split at h
  next =>
    split at h
    · obtain ⟨d, hd, rfl⟩ := Option.map_eq_some_iff.mp h
      exact .inl (List.mem_of_head? hd)
    · simp at h
  next n _ =>
    split at h
    · cases h; exact .inr ⟨n, rfl⟩
    · split at h
      · simp at h
      · obtain ⟨d, hd, rfl⟩ := Option.map_eq_some_iff.mp h
        exact .inl (List.mem_of_find?_eq_some hd)

theorem acc_ne_rs {i j : Nat} {o : Obj} (hi : i ∈ indicesWithoutRs) (h : findObj true i j = some o) : o.d.acc ≠ .rs := by
  obtain ⟨r, hr, ho⟩ := Option.bind_eq_some_iff.mp h
  have hrow := rows_without_rs i hi
  simp only [hr, Option.all_some, List.all_eq_true, bne_iff_ne] at hrow
  rcases findSub_desc ho with hd | ⟨n, hd⟩
  · exact hrow _ hd
  · rw [hd]; simp [countDesc, sD, mkD]

theorem findObj_place {m : Bool} {i j : Nat} {o : Obj} (h : findObj m i j = some o) : o.idx = i ∧ o.sub = j := by
  obtain ⟨r, -, ho⟩ := Option.bind_eq_some_iff.mp h
  exact findSub_place ho

/-! ### BLOCK_READ and BLOCK_WRITE -/

/-- Outside the frozen states step 12 refuses only WH_EPOCH (R184, R198). -/
theorem freezeCheck_of_not_frozen {s : State} {o : Obj} (hf : s.frozen = false) (hi : o.idx ≠ 0x1F08) : s.freezeCheck o = false := by
  have hk : s.koState ≠ 3 ∧ s.koState ≠ 4 := by
    simp [State.frozen] at hf; omega
  simp [State.freezeCheck, hf, hi, hk]

theorem blockReadDo_active {s : State} {t i j k n : Nat} (hi : i ≠ 0x2B09) (hk : k ≤ (s.view t i j).data.length) :
    s.blockReadDo t i j k n false = (s, { status := 0, payload := ((s.view t i j).data.drop k).take n }) := by
  simp [State.blockReadDo, hi, State.domData, hk]

/-- A BLOCK_WRITE of an RS DOMAIN stages what it makes of the content (R93, R97). -/
theorem blockWriteDo_rs {s : State} {t k : Nat} {o : Obj} {trunc : Bool} {data new : List Byte} (hi : o.idx ∉ indicesWithoutRs)
    (hrs : o.d.acc = .rs) (hnew : blockPatch (s.domData t o.idx o.sub true) k trunc data = new)
    (hk : k ≤ (s.domData t o.idx o.sub true).length) (hmax : new.length ≤ o.d.ty.domMax) (hrng : o.inRng s.mgr (.bytes new) = true)
    (hroom : s.stageFull t o.idx o.sub = false) :
    s.blockWriteDo t o k trunc data = (s.stage t o.idx o.sub (.bytes new), 0) := by
  obtain ⟨-, hwindow, hctx⟩ := of_notMem_indicesWithoutRs hi
  simp [State.blockWriteDo, hwindow, hctx, hrs, hnew, hk, hmax, hrng, hroom]

/-- A BLOCK_READ that passes steps 7–13 is posted to the bridge. -/
theorem doBlockRead_posts {s : State} {f : Frame} {o : Obj} (hten : f.ten.toNat < 128)
    (ho : findObj s.mgr f.index.toNat f.sub.toNat = some o) (hgrant : s.granted f.ten.toNat o false = true)
    (hdom : o.d.ty.isDom = true) (hlen : f.len = 6#16) (hres : blockReserved f.payload = 0) (hmode : blockMode f.payload = false)
    (hpos : 0 < beAt f.payload 4 2) (hmax : beAt f.payload 4 2 ≤ 4096) :
    s.doBlockRead { ty := 3, f := f } = s.postWork { ty := 3, f := f }
      (.blockRead f.index.toNat f.sub.toNat (blockOffset f.payload) (beAt f.payload 4 2) false) := by
  have hn : ¬ (beAt f.payload 4 2 = 0 ∨ 4096 < beAt f.payload 4 2) := by omega
  simp [State.doBlockRead, Req.idx, Req.sub, Req.len, Req.t, Nat.mod_eq_of_lt hten, State.findOr_of_findObj ho, hgrant, hdom, hlen,
    hres, hmode, hn]

/-- A BLOCK_WRITE of an RS DOMAIN that passes steps 7–13 is posted to the bridge. -/
theorem doBlockWrite_posts {s : State} {f : Frame} {o : Obj} (hten : f.ten.toNat < 128)
    (ho : findObj s.mgr f.index.toNat f.sub.toNat = some o) (hi : o.idx ∉ indicesWithoutRs)
    (hgrant : s.granted f.ten.toNat o true = true) (hdom : o.d.ty.isDom = true) (hlen : 5 ≤ f.len.toNat)
    (hmaint : o.d.maint = true → s.getN 0x1F20 0 ≠ 0) (hfrozen : s.frozen = false) (hres : blockReserved f.payload = 0)
    (hmax : blockOffset f.payload + (f.payload.drop 4).length ≤ o.d.ty.domMax) :
    s.doBlockWrite { ty := 4, f := f } = s.postWork { ty := 4, f := f }
      (.blockWrite f.index.toNat f.sub.toNat (blockOffset f.payload) (blockMode f.payload) (f.payload.drop 4)) := by
  obtain ⟨hidx, -⟩ := findObj_place ho
  obtain ⟨hepoch, hwindow, -⟩ := of_notMem_indicesWithoutRs hi
  have hkey : ¬ (o.d.maint = true ∧ s.getN 0x1F20 0 = 0) := fun h => hmaint h.1 h.2
  simp only [State.doBlockWrite, Req.idx, Req.sub, Req.len, Req.t, Nat.mod_eq_of_lt hten, State.findOr_of_findObj ho]
  simp [hgrant, hdom, Nat.not_lt.mpr hlen, hkey, freezeCheck_of_not_frozen hfrozen hepoch, hres, hidx ▸ hwindow, Nat.not_lt.mpr hmax,
    -List.length_drop]

/-- Settles O15: a free bridge does either transfer on edge E; what it stages is `blockPatch` of the content staged, or active where
none is. -/
theorem blockTransfersReadAndStageDomains : Obligations.BlockTransfersReadAndStageDomains := by
  constructor
  · intro f s o h hlen ho hdom hwindow hgrant hqueue hopen htime hres hmode hpos hmax l hoff
    have ho' : findObj (s.heard f).mgr f.index.toNat f.sub.toNat = some o := by rwa [State.heard_mgr, h.takes.manager]
    have hidx : f.index.toNat ≠ 0x2B09 := fun e => hwindow (BitVec.eq_of_toNat_eq e)
    refine congrArg Host.Outcome.next (serve_bridgeWork h hqueue hopen htime
      (doBlockRead_posts h.tenant ho' hgrant hdom hlen hres hmode hpos hmax) ?quick ?done hqueue (State.heard_turnaround s f))
    case quick => simp [State.quick, hidx]
    case done =>
      simp only [State.bridgeDo, Req.entry, Req.t, Nat.mod_eq_of_lt h.tenant, blockReadDo_active hidx hoff]
      rfl
  · intro f s o h hlen ho hdom hrs hgrant hfrozen hmaint hqueue hopen htime hres k old new hoff hend hmax hrng hroom
    have hmgr : (s.heard f).mgr = true := h.takes.manager
    have ho' : findObj (s.heard f).mgr f.index.toNat f.sub.toNat = some o := by rwa [hmgr]
    obtain ⟨hidx, -⟩ := findObj_place ho
    have hplain : o.idx ∉ indicesWithoutRs := fun hi => acc_ne_rs (hidx ▸ hi) ho hrs
    obtain ⟨-, hwindow, -⟩ := of_notMem_indicesWithoutRs hplain
    refine congrArg Host.Outcome.next (serve_bridgeWork h hqueue hopen htime
      (doBlockWrite_posts h.tenant ho' hplain hgrant hdom hlen hmaint hfrozen hres hend) ?quick ?done ?queue ?turnaround)
    case quick => simp [State.quick, hidx ▸ hwindow]
    case done =>
      have hdo : (s.heard f).blockWriteDo f.ten.toNat o (blockOffset f.payload) (blockMode f.payload) (f.payload.drop 4) =
          ((s.heard f).stage f.ten.toNat o.idx o.sub (.bytes new), 0) :=
        blockWriteDo_rs hplain hrs rfl hoff hmax (hmgr ▸ hrng) hroom
      simp only [State.bridgeDo, Req.entry, Req.t, Nat.mod_eq_of_lt h.tenant, ho', hdo]
    case queue => simp [hqueue]
    case turnaround => simp

end Sys2Proof.Proofs.ObjectDictionary
end

section
/-! What stands beside a Kickoff: the transactions of the crossbar with the log entries they cause (R403, R465), the frames that the
manager makes for its workers (R190) and the completion of bridge requests (R19, R63) change neither the Kickoff nor the Whistle, the
staging store or the tenants; so an abandoned Kickoff leaves what R183 says. -/
namespace Sys2Proof.Proofs.KickoffAndWhistle
open Sys2Proof Sys2Proof.Machine Sys2Proof.Proofs.ObjectDictionary

/-- `t` comes of `s` by work that stands beside the Kickoff: the Kickoff, the Whistle, the staging store, the tenants, the response on
the link and the objects 0x1F00 to 0x1FFF are the same, and no pending event is cleared. -/
structure Beside (s t : State) : Prop where
  kick : t.kick = s.kick := by rfl
  whis : t.whis = s.whis := by rfl
  staging : t.staging = s.staging := by rfl
  tenants : t.tenants = s.tenants := by rfl
  resp : t.link.resp = s.link.resp := by rfl
  objects : ∀ i j, 0x1F00 ≤ i → i < 0x2000 → j < 256 → t.getN i j = s.getN i j := by intros; rfl
  pend : ∀ b, bitAt s.ev.pend b = true → bitAt t.ev.pend b = true := by intro _ h; exact h

theorem Beside.refl (s : State) : Beside s s := {}

theorem Beside.trans {s t u : State} (h : Beside s t) (h' : Beside t u) : Beside s u where
  kick := h'.kick.trans h.kick
  whis := h'.whis.trans h.whis
  staging := h'.staging.trans h.staging
  tenants := h'.tenants.trans h.tenants
  resp := h'.resp.trans h.resp
  objects i j hi hi' hj := (h'.objects i j hi hi' hj).trans (h.objects i j hi hi' hj)
  pend b hb := h'.pend b (h.pend b hb)

theorem Beside.foldl {α : Type} {g : State → α → State} (h : ∀ s a, Beside s (g s a)) (l : List α) (s : State) : Beside s (l.foldl g s) :=
  List.foldlRecOn l g (.refl s) (fun t ht a _ => ht.trans (h t a))

theorem setN_beside {i j : Nat} (s : State) (v : Nat) (hi : i < 0x1F00 ∨ 0x2000 ≤ i) (hj : j < 256) : Beside s (s.setN i j v) where
  objects k l hk hk' hl := State.getN_setN_other s i j k l v (by simp only [objKey]; omega)

theorem count_beside {i j : Nat} (s : State) (hi : i < 0x1F00 ∨ 0x2000 ≤ i) (hj : j < 256) : Beside s (s.count i j) :=
  setN_beside s _ hi hj

theorem bitAt_eq_testBit (v i : Nat) : bitAt v i = v.testBit i := by
  simp [bitAt, Nat.testBit, Nat.shiftRight_eq_div_pow]

theorem bitAt_putBit_true (v i b : Nat) : bitAt (putBit v i true) b = (bitAt v b || decide (i = b)) := by
  simp [bitAt_eq_testBit, putBit, Nat.testBit_or, Nat.one_shiftLeft, Nat.testBit_two_pow]

theorem recordEv_beside (s : State) (b : Nat) : Beside s (s.recordEv b) := {}

theorem event_beside (s : State) (b : Nat) : Beside s (s.event b) := by
  unfold State.event
  dsimp only
  split
  · exact recordEv_beside s b
  · exact { pend := fun c hc => by simp [bitAt_putBit_true, State.recordEv, hc] }

theorem setLogSt_beside (s : State) (l : Nat) (x : LogSt) : Beside s (s.setLogSt l x) := {}

/-! ### The crossbar -/

theorem xbError_beside (s : State) (x : XReq) (cause : Nat) : Beside s (s.xbError x cause) :=
  (count_beside s (by omega) (by omega)).trans (setN_beside _ _ (by omega) (by omega))

theorem eraseBank_beside (s : State) (b : Nat) : Beside s (s.eraseBank b) := {}

theorem bankReady_beside (s : State) (p : Nat) : Beside s (s.bankReady p) := by
  unfold State.bankReady
  dsimp only
  split
  · exact .refl s
  · split
    · split
      · exact .trans (t := s.setPhys p _) {} (eraseBank_beside _ _)
      · exact {}
    · exact {}

theorem bankStall_beside (s : State) (b : Nat) : Beside s (s.bankStall b) := by
  unfold State.bankStall
  split
  · exact bankReady_beside s _
  · exact .refl s

theorem countCE_beside (s : State) (p : Place) (a : Nat) : Beside s (s.countCE p a) := by
  unfold State.countCE
  split
  · exact .trans (count_beside s (i := 0x2A40 + _) (by omega) (by omega : 4 < 256)) {}
  · exact .trans (.trans (count_beside s (i := 0x2901) (by omega) (by omega : 3 < 256)) {}) (setN_beside _ a (by omega) (by omega))
  · exact .refl s

theorem countUE_beside (s : State) (p : Place) (a : Nat) : Beside s (s.countUE p a) := by
  unfold State.countUE
  split
  · exact ((count_beside s (by omega) (by omega)).trans (setN_beside _ a (by omega) (by omega))).trans (event_beside _ 20)
  · refine Beside.trans (Beside.trans (Beside.trans (count_beside s (i := 0x2901) (by omega) (by omega : 4 < 256)) ?_)
      (setN_beside _ a (by omega) (by omega))) (event_beside _ 20)
    exact {}
  · exact .refl s

theorem readBeat_beside (s : State) (u : Nat) (b : Nat × Nat) : Beside s (s.readBeat u b).1 := by
  unfold State.readBeat
  dsimp only
  split
  · exact countUE_beside s _ _
  · split
    · exact countCE_beside s _ _
    · exact .refl s

theorem readBeats_beside (u : Nat) (l : List (Nat × Nat)) : ∀ s, Beside s (s.readBeats u l).1 := by
  induction l with
  | nil => exact Beside.refl
  | cons b l ih => exact fun s => (readBeat_beside s u b).trans (ih _)

theorem writeBeat_beside (s : State) (u : Nat) (whole : Bool) (b : Nat × Nat) (data : List Byte) :
    Beside s (s.writeBeat u whole b data).1 := by
  unfold State.writeBeat
  extract_lets p a k full word t bank t' new
  have ht : Beside s t := by
    unfold t
    split
    · exact countCE_beside s _ _
    · exact .refl s
  have ht' : Beside s t' := ht.trans {}
  split
  · exact countUE_beside s _ _
  · cases p <;> exact ht'.trans {}

theorem writeBeats_beside (u : Nat) (whole : Bool) (l : List (Nat × Nat)) : ∀ s data, Beside s (s.writeBeats u whole l data).1 := by
  induction l with
  | nil => exact fun s _ => .refl s
  | cons b l ih => exact fun s data => (writeBeat_beside s u whole b _).trans (ih _ _)

/-- What `below` offers a transaction of nesting `fuel` for its own log entries works beside the Kickoff. -/
def LogsBeside : (fuel : Nat) → Nat.below (motive := fun _ => State → XReq → State × XResp) fuel → Prop
  | 0, _ => True
  | _ + 1, below => ∀ s x, Beside s (below.1 s x).1

/-- One transaction, without the nesting. The equation compiler has no equations for `xbRun`, which is too large for it; `xbRun._f` is its
body. The proof speaks first of the body's own local functions, which log and refuse, and then takes its branches in the order of
R403, with a name for each state that the body passes through. -/
theorem xbBody_beside (fuel : Nat) (below : Nat.below fuel) (hbelow : LogsBeside fuel below) (s : State) (x : XReq) :
    Beside s (xbRun._f fuel below s x).1 := by
  delta xbRun._f
  dsimp -zeta only
  extract_lets +onlyGivenNames s1 s2 log memLog limited fail u
  have h2 : Beside s s2 := (count_beside s (by omega) (by omega)).trans (setN_beside s1 _ (by omega) (by omega))
  have hlog : ∀ s time code flags tail, Beside s (log s 3 time code flags tail) := by
    intro s time code flags tail
    have hlost : ∀ t : State, Beside t ((t.setLogSt 3 { t.logSt 3 with lost := true }).count 0x1423 4) := fun t =>
      (setLogSt_beside t 3 _).trans (count_beside _ (by omega) (by omega))
    cases fuel with
    | zero => exact hlost s
    | succ n =>
      dsimp only [log]
      split
      · exact (hbelow _ _).trans (setLogSt_beside _ 3 _)
      · exact (hbelow _ _).trans (hlost _)
  have hmem : ∀ s kind m attr tail, Beside s (memLog s kind m attr tail) := by
    intro s kind m attr tail
    dsimp only [memLog]
    split
    · exact hlog _ _ _ _ _
    · exact (hlog _ _ _ _ _).trans (event_beside _ 21)
  have hstamp : ∀ (s : State) l, Beside s { s with ev := { s.ev with lastLog := l } } := fun _ _ => {}
  have hlim : ∀ s kind attr a, Beside s (limited s kind attr a) := by
    intro s kind attr a
    dsimp only [limited]
    split
    · exact .refl s
    · exact (hstamp s _).trans (hmem _ _ _ _ _)
  have hfail : ∀ s code cause data, Beside s (fail s code cause data).1 := fun s _ cause _ => xbError_beside s x cause
  clear_value log memLog limited fail u
  refine h2.trans ?_
  split
  · exact hfail _ _ _ _
  next a _ =>
  extract_lets +onlyGivenNames p
  clear_value p
  split
  · exact hfail _ _ _ _
  next t _ =>
  split
  · exact hfail _ _ _ _
  split
  · exact hfail _ _ _ _
  extract_lets +onlyGivenNames gs ga
  split
  · extract_lets s3 s4
    exact (((count_beside s2 (by omega) (by omega)).trans (setN_beside _ _ (by omega) (by omega))).trans (hlim s3 _ _ _)).trans
      (hfail s4 _ _ _)
  extract_lets +onlyGivenNames attr
  split
  · exact hfail _ _ _ _
  refine iteInduction (motive := fun r : State × XResp => Beside s2 r.1) (fun _ => ?_) (fun _ => ?_)
  · extract_lets s3 s4
    exact ((count_beside s2 (by omega) (by omega)).trans (hlim s3 _ _ _)).trans (hfail s4 _ _ _)
  extract_lets +onlyGivenNames s3 lat s4 s5 s6
  have h3 : Beside s2 s3 := by
    dsimp only [s3]
    split
    · exact bankStall_beside s2 _
    · exact .refl s2
  have h4 : Beside s3 s4 := setN_beside s3 _ (by omega) (by omega)
  have h5 : Beside s4 s5 := by
    dsimp only [s5]
    split
    · exact setN_beside s4 (i := 0x2A40 + _) _ (by omega) (by split <;> omega)
    · exact .refl s4
  have h6 : Beside s5 s6 := by
    dsimp only [s6]
    split
    · exact {}
    · exact .refl s5
  clear_value s3 s4 s5 s6
  refine (((h3.trans h4).trans h5).trans h6).trans ?_
  have hmove : Beside s6 (if x.wr = true then
      ((s6.writeBeats u (x.m == 18) (beatsOf a x.len) (padTo x.len x.data)).1, ([] : List Byte),
        (s6.writeBeats u (x.m == 18) (beatsOf a x.len) (padTo x.len x.data)).2)
      else s6.readBeats u (beatsOf a x.len)).1 := by
    split
    · exact writeBeats_beside u _ _ s6 _
    · exact readBeats_beside u _ s6
  generalize (if x.wr = true then _ else _ : State × List Byte × List Nat) = moved at hmove ⊢
  split
  · exact hmove
  extract_lets kind s7
  have h7 : Beside moved.1 s7 := by
    refine Beside.foldl (fun s w => ?_) _ _
    dsimp only
    split
    · exact .refl s
    · exact (hstamp s _).trans (hmem _ _ _ _ _)
  exact (hmove.trans h7).trans (hfail s7 _ _ _)

theorem xbRun_eq_go (fuel : Nat) (s : State) (x : XReq) : xbRun fuel s x = (Nat.brecOn.go fuel xbRun._f).1 s x := by
  delta xbRun
  rfl

/-- No transaction of any master reaches the Kickoff: its counters, its data and the log entries that M18 makes of it lie elsewhere. -/
theorem xbRun_beside (fuel : Nat) : ∀ s x, Beside s (xbRun fuel s x).1 := by
  induction fuel with
  | zero => exact fun s x => xbBody_beside 0 (Nat.brecOn.go 0 xbRun._f).2 trivial s x
  | succ n ih =>
    intro s x
    simp only [xbRun_eq_go] at ih ⊢
    exact xbBody_beside (n + 1) (Nat.brecOn.go (n + 1) xbRun._f).2 ih s x

/-! ### The data-plane logs, the frames on the spans and the bridge queue -/

theorem dpLog_beside {l : Nat} (hl : l ≤ 5) (s : State) (time code flags : Nat) (tail : List Byte) :
    Beside s (s.dpLog l time code flags tail).1 := by
  unfold State.dpLog
  dsimp only
  have hrun : ∀ e, Beside s (s.xbWrite 18 0 (s.getN 0x1430 0 + (l - 1) * 0x1000 + 16 * (s.logSt l).pos) e).1 := fun e => xbRun_beside 3 s _
  split
  · exact (hrun _).trans (setLogSt_beside _ l _)
  · exact ((hrun _).trans (setLogSt_beside _ l _)).trans (count_beside _ (by omega) (by omega))

theorem koLog_beside (s : State) (st ten : Nat) : Beside s (s.koLog st ten) := dpLog_beside (by omega) s _ _ _ _

theorem chanSend_beside (s : State) (p ch : Nat) (msg : List Byte) : Beside s (s.chanSend p ch msg) := by
  unfold State.chanSend
  split
  · exact .refl s
  · exact {}

theorem sendDown_beside (s : State) (w ch : Nat) (msg : List Byte) : Beside s (s.sendDown w ch msg) := by
  unfold State.sendDown
  split
  · exact chanSend_beside s _ ch msg
  · exact .refl s

theorem makeRound_beside (s : State) (ws : List Nat) (ty idx sub ten : Nat) (payload : List Byte) :
    Beside s (s.makeRound ws ty idx sub ten payload) := by
  unfold State.makeRound
  have hsent := Beside.foldl (fun (s : State) w => sendDown_beside s w 0 (wireBytes ty (s.makeFrame w ty idx sub ten payload))) ws s
  dsimp only
  split
  · exact hsent
  · exact hsent.trans {}

theorem savePump_beside (s : State) : Beside s s.savePump := by
  unfold State.savePump
  split
  · split
    · exact .trans {} (setN_beside { s with mtp := { s.mtp with saving := some s.pImage, since := s.tbc } } 1 (by omega) (by omega))
    · split
      · exact setN_beside s 2 (by omega) (by omega)
      · exact .refl s
  · exact .refl s

theorem lbResult_beside (s : State) (echo : Nat) (r : Res) (all : Bool) : Beside s (s.lbResult echo r all) := by
  unfold State.lbResult
  split
  · exact .refl s
  · have hstatus : Beside s (s.setN 0x1108 2 r.status) := setN_beside s _ (by omega) (by omega)
    dsimp only
    split
    · exact hstatus.trans (setN_beside _ _ (by omega) (by omega))
    · exact hstatus

theorem completeBcast_beside (s : State) (i : Nat) (e : BEntry) (r : Res) : Beside s (s.completeBcast i e r) := by
  have hqueue : ∀ q, Beside s { s with queue := q } := fun _ => {}
  unfold State.completeBcast
  extract_lets pair
  split
  · exact (hqueue _).trans (lbResult_beside _ _ _ _)
  · split
    · exact hqueue _
    · dsimp only
      split
      · exact hqueue _
      · exact (hqueue _).trans (lbResult_beside _ _ _ _)
      · exact hqueue _

theorem completeEntry_beside (s : State) (i : Nat) (e : BEntry) (r : Res) : Beside s (s.completeEntry i e r) := by
  unfold State.completeEntry
  extract_lets +onlyGivenNames link s'
  have h' : Beside s s' := by
    dsimp only [s']
    split
    · exact {}
    · exact .refl s
  clear_value s'
  refine h'.trans ?_
  split
  · exact {}
  · split
    · exact completeBcast_beside s' i e r
    · extract_lets s2
      have h2 : Beside s' s2 := by
        dsimp only [s2]
        split
        · exact lbResult_beside s' _ _ _
        · exact .refl s'
      exact (h2.trans (u := { s2 with queue := _ }) {}).trans (event_beside _ 0)

theorem complete_beside (s : State) (p : BEntry → Bool) (r : Res) : Beside s (s.complete p r) := by
  unfold State.complete
  dsimp only
  split
  · exact (completeEntry_beside s _ _ _).trans (savePump_beside _)
  · exact .refl s

/-! ### Abandoning a Kickoff -/

/-- A Kickoff that fails is gone, with its state and the event; what follows stands beside it. -/
theorem koFail_beside (s : State) (st : Nat) :
    Beside ((({ s.koRelease with kick := none }).setN 0x1F00 2 st).event 14) (s.koFail st) := by
  unfold State.koFail
  exact (((koLog_beside _ st _).trans (complete_beside _ _ _)).trans (complete_beside _ _ _)).trans (savePump_beside _)

theorem koRelease_beside (s : State) : Beside s s.koRelease := by
  unfold State.koRelease
  split
  · exact .refl s
  · exact makeRound_beside s _ _ _ _ _ _

/-- What an end of a Kickoff in state `st` shows of it, and what it leaves of the control plane. -/
structure KickGone (s t : State) (st : Nat) : Prop where
  state : t.koState = st
  kick : t.kick = none
  event : bitAt t.ev.pend 14 = true
  resp : t.link.resp = s.link.resp
  staging : t.staging = s.staging
  tenants : t.tenants = s.tenants

theorem koFail_gone (s : State) (st : Nat) : KickGone s (s.koFail st) st := by
  have h := koFail_beside s st
  have hr := koRelease_beside s
  exact {
    state := (h.objects 0x1F00 2 (by omega) (by omega) (by omega)).trans (State.getN_setN { s.koRelease with kick := none } 0x1F00 2 st)
    kick := h.kick
    event := h.pend 14 (by simp [State.event, State.recordEv, bitAt_putBit_true])
    resp := h.resp.trans hr.resp
    staging := h.staging.trans hr.staging
    tenants := h.tenants.trans hr.tenants }

theorem koReport_resp (s : State) (dev : Nat) (r : Refuse) : (s.koReport dev r).link.resp = s.link.resp := by simp [State.koReport]
theorem koReport_staging (s : State) (dev : Nat) (r : Refuse) : (s.koReport dev r).staging = s.staging := by simp [State.koReport]
theorem koReport_tenants (s : State) (dev : Nat) (r : Refuse) : (s.koReport dev r).tenants = s.tenants := by simp [State.koReport]

/-- Abandoned in state 1 or 2 a Kickoff is gone, in state 7 (R183). -/
theorem koAbandoned_gone (s : State) : KickGone s s.koAbandoned 7 := by
  unfold State.koAbandoned
  split
  · have h := koFail_gone (s.koReport 0 { check := 0x15 }) 7
    exact ⟨h.state, h.kick, h.event, h.resp.trans (koReport_resp s _ _), h.staging.trans (koReport_staging s _ _),
      h.tenants.trans (koReport_tenants s _ _)⟩
  · exact koFail_gone s 7

end Sys2Proof.Proofs.KickoffAndWhistle
end

section
/-! The writes of KO_EPOCH, WH_EPOCH, KO_ABANDON and WD_HOST_S: steps 7 to 13 of R50 passed, each takes effect at the settle edge of its
frame (R45). -/
namespace Sys2Proof.Proofs.KickoffAndWhistle
open Sys2Proof Sys2Proof.Machine Sys2Proof.Proofs.ObjectDictionary

section
variable (s : State) (ty : Nat) (f : Frame)

@[simp] theorem replayed_kick : (s.replayed ty f).kick = s.kick := rfl
@[simp] theorem replayed_ev : (s.replayed ty f).ev = s.ev := rfl
@[simp] theorem replayed_resp : (s.replayed ty f).link.resp = s.link.resp := rfl
@[simp] theorem replayed_staging : (s.replayed ty f).staging = s.staging := rfl
@[simp] theorem replayed_tenants : (s.replayed ty f).tenants = s.tenants := rfl
@[simp] theorem replayed_queue : (s.replayed ty f).queue = s.queue := rfl
@[simp] theorem replayed_replay : (s.replayed ty f).link.replay = some (echoOf ty f, f.crc.toNat) := rfl
@[simp] theorem replayed_straps : (s.replayed ty f).straps = s.straps := rfl
@[simp] theorem replayed_whis : (s.replayed ty f).whis = s.whis := rfl
@[simp] theorem replayed_mem : (s.replayed ty f).mem = s.mem := rfl
@[simp] theorem replayed_pending : (s.replayed ty f).pending = s.pending := rfl
@[simp] theorem replayed_tbc : (s.replayed ty f).tbc = s.tbc := rfl
@[simp] theorem replayed_getN (i j : Nat) : (s.replayed ty f).getN i j = s.getN i j := rfl

end

/-! ### Writes of the control plane at their settle edge -/

/-- The objects of KO_EPOCH, WH_EPOCH, KO_ABANDON and WD_HOST_S. -/
def kickControls : List (Nat × Nat) := [(0x1F00, 1), (0x1F08, 1), (0x1F00, 5), (0x1440, 1)]

theorem kickControls_numbers : ∀ p ∈ kickControls,
    (findObj true p.1 p.2).all (fun o => o.d.acc != .rs && o.d.ty != .str && !o.d.ty.isDom) := by
  decide +kernel

theorem decodeVal_nat {ty : Ty} (hstr : ty ≠ .str) (hdom : ty.isDom = false) (l : List Byte) : (decodeVal ty l).nat = ofBE l := by
  cases ty with
  | str => exact absurd rfl hstr
  | dom _ => simp [Ty.isDom] at hdom
  | _ => rfl

theorem doSpecialWrite_kickControl {o : Obj} (hp : (o.idx, o.sub) ∈ kickControls) (s : State) (r : Req) (v : Nat) :
    s.doSpecialWrite r o v = none := by
  simp only [kickControls, List.mem_cons, Prod.mk.injEq, List.not_mem_nil, or_false] at hp
  rcases hp with ⟨hi, hj⟩ | ⟨hi, hj⟩ | ⟨hi, hj⟩ | ⟨hi, hj⟩ <;> simp [State.doSpecialWrite, hi, hj, inRange]

theorem dataPlane_kickControl {i j : Nat} (hp : (i, j) ∈ kickControls) : dataPlane i = false :=
  (by decide : ∀ p ∈ kickControls, dataPlane p.1 = false) _ hp

/-- A WRITE of one of these objects takes effect at its settle edge, with the number that its payload holds. -/
theorem serve_kickControl {s : State} {f : Frame} {o : Obj} {i j : Nat} (hp : (i, j) ∈ kickControls)
    (h : s.Executes 2 (atObject f i j)) (hw : s.MayWrite (atObject f i j) o) :
    ∃ v : Val, v.nat = ofBE f.payload ∧ o.idx = i ∧ o.sub = j ∧
      s.serve 2 (atObject f i j) 0 none = (s.heard (atObject f i j)).answered (atObject f i j) 0 (echoOf 2 (atObject f i j)) []
        (fun t => (t.applyCtl f.ten.toNat o v).replayed 2 (atObject f i j)) := by
  obtain ⟨hfind, hidx, hsub⟩ := hw.object
  have hplace : ∀ p ∈ kickControls, p.1 < 65536 ∧ p.2 < 256 := by decide
  have hi : (atObject f i j).index.toNat = i := Nat.mod_eq_of_lt (hplace _ hp).1
  have hj : (atObject f i j).sub.toNat = j := Nat.mod_eq_of_lt (hplace _ hp).2
  rw [hi] at hidx
  rw [hj] at hsub
  have hnum := kickControls_numbers _ hp
  rw [h.takes.manager, hi, hj] at hfind
  simp only [hfind, Option.all_some, Bool.and_eq_true, bne_iff_ne, Bool.not_eq_true'] at hnum
  obtain ⟨⟨hrs, hstr⟩, hdom⟩ := hnum
  refine ⟨decodeVal o.d.ty f.payload, decodeVal_nat hstr hdom _, hidx, hsub, ?_⟩
  subst hidx hsub
  generalize hg : atObject f o.idx o.sub = g at h hw hi hj ⊢
  have hcheck : (s.heard g).writeCheck (g.ten.toNat % 128) ((s.heard g).tenant (g.ten.toNat % 128)).session g.index.toNat g.sub.toNat
      g.payload = .inr o := by
    rw [Nat.mod_eq_of_lt h.tenant]
    exact hw
  have hdo : (s.heard g).doType { ty := 2, f := g } 0 =
      (s.heard g).atSettle (fun t => t.applyCtl g.ten.toNat o (decodeVal o.d.ty g.payload)) := by
    show (s.heard g).doWrite { ty := 2, f := g } = _
    simp only [State.doWrite, Req.t, Req.idx, Req.sub, hcheck, State.doWriteTo, payloadVal]
    simp [hrs, doSpecialWrite_kickControl hp, dataPlane_kickControl hp, Nat.mod_eq_of_lt h.tenant]
  rw [State.serve_answered s 2 g 0 h _ hdo rfl (State.heard_turnaround s g)]
  subst hg
  rfl

/-- A frame's settle edge: the state it finds, with the response driven on the link. -/
def settling (s : State) (f : Frame) (status echo : Nat) (payload : List Byte) : State :=
  (s.clock (s.getN 0x1101 1 + (72 + 8 * payload.length) + 12)).drive
    { status := status, echo := echo, payload := payload, full := true } (112 + 8 * f.len.toNat) (s.getN 0x1101 1) none

section
variable (s : State) (f : Frame) (status echo : Nat) (payload : List Byte)

@[simp] theorem settling_straps : (settling s f status echo payload).straps = s.straps := rfl
@[simp] theorem settling_tbc : (settling s f status echo payload).tbc = s.tbc := rfl
@[simp] theorem settling_mem : (settling s f status echo payload).mem = s.mem := rfl
@[simp] theorem settling_pending : (settling s f status echo payload).pending = s.pending := rfl
@[simp] theorem settling_kick : (settling s f status echo payload).kick = s.kick := rfl
@[simp] theorem settling_whis : (settling s f status echo payload).whis = s.whis := rfl
@[simp] theorem settling_staging : (settling s f status echo payload).staging = s.staging := rfl
@[simp] theorem settling_tenants : (settling s f status echo payload).tenants = s.tenants := rfl
@[simp] theorem settling_queue : (settling s f status echo payload).queue = s.queue := rfl
@[simp] theorem settling_getN (i j : Nat) : (settling s f status echo payload).getN i j = s.getN i j := rfl
@[simp] theorem settling_resp : (settling s f status echo payload).link.resp =
    some { status := status, echo := echo, payload := payload, full := true } := rfl

end

theorem answered_eq_settling (s : State) (f : Frame) (status echo : Nat) (payload : List Byte) (g : State → State) :
    s.answered f status echo payload g = (g (settling s f status echo payload)).clock f.gap := rfl

section
variable (f : Frame) (s : State)

theorem exec_koEpochWrite : exec (.koEpochWrite f) s = .next (s.serve 2 (atObject f 0x1F00 1) 0 none) := rfl
theorem exec_whEpochWrite : exec (.whEpochWrite f) s = .next (s.serve 2 (atObject f 0x1F08 1) 0 none) := rfl
theorem exec_koAbandon : exec (.koAbandon f) s = .next (s.serve 2 (atObject f 0x1F00 5) 0 none) := rfl
theorem exec_wdHostSWrite : exec (.wdHostSWrite f) s = .next (s.serve 2 (atObject f 0x1440 1) 0 none) := rfl

end

section
variable (s : State) (v : Nat)

@[simp] theorem wdHostS_getN : (s.wdHostS v).getN 0x1440 1 = v := State.getN_setN s 0x1440 1 v
@[simp] theorem wdHostS_tbc : (s.wdHostS v).tbc = s.tbc := rfl
@[simp] theorem wdHostS_lastOk : (s.wdHostS v).ev.lastOk = s.tbc := rfl
@[simp] theorem wdHostS_hostArmed : (s.wdHostS v).ev.hostArmed = (v != 0) := rfl
@[simp] theorem wdHostS_staging : (s.wdHostS v).staging = s.staging := rfl
@[simp] theorem wdHostS_tenants : (s.wdHostS v).tenants = s.tenants := rfl
@[simp] theorem wdHostS_queue : (s.wdHostS v).queue = s.queue := rfl

end

/-- Settles O16: each write is answered 0x00 and its effect, that of `State.applyCtl`, comes at the settle edge. -/
theorem controlWritesTakeEffectAtSettle : Obligations.ControlWritesTakeEffectAtSettle := by
  unfold Obligations.ControlWritesTakeEffectAtSettle
  refine ⟨fun f g s o h hw => ⟨?koEpoch, ?whEpoch⟩, ?koAbandon, ?wdHost⟩
  case koEpoch =>
    rintro rfl
    obtain ⟨v, hv, hi, hj, hserve⟩ := serve_kickControl (by decide) h hw
    rw [exec_koEpochWrite, hserve]
    simp [State.applyCtl, hi, hj, hv, inRange]
  case whEpoch =>
    rintro rfl
    obtain ⟨v, hv, hi, hj, hserve⟩ := serve_kickControl (by decide) h hw
    rw [exec_whEpochWrite, hserve]
    simp [State.applyCtl, hi, hj, hv, inRange]
  case koAbandon =>
    rintro f g s o rfl h hw hstate
    obtain ⟨v, -, hi, hj, hserve⟩ := serve_kickControl (by decide) h hw
    refine ⟨_, exec_koAbandon f s, ?_⟩
    rw [hserve, answered_eq_settling]
    generalize hu : settling _ _ _ _ _ = u
    have hko : u.koState = s.koState := by
      rw [← hu, State.koState, settling_getN]
      exact State.heard_getN s _ _ _ (by decide)
    have happly : u.applyCtl f.ten.toNat o v = u.koAbandoned := by
      simp [State.applyCtl, hi, hj, inRange, State.koAbandonWrite, hko, hstate]
    have hgone := koAbandoned_gone u
    rw [happly]
    generalize u.koAbandoned = gone at hgone
    have hseven : gone.getN 0x1F00 2 = 7 := hgone.state
    simp [hseven, hgone.kick, hgone.event, hgone.resp, hgone.staging, hgone.tenants, ← hu]
  case wdHost =>
    rintro f g s o rfl h hw
    obtain ⟨v, hv, hi, hj, hserve⟩ := serve_kickControl (by decide) h hw
    refine ⟨_, exec_wdHostSWrite f s, ?_⟩
    rw [hserve, answered_eq_settling]
    have happly : ∀ u : State, u.applyCtl f.ten.toNat o v = u.wdHostS (ofBE f.payload) := by
      simp [State.applyCtl, hi, hv, inRange]
    rw [happly]
    simp

end Sys2Proof.Proofs.KickoffAndWhistle
end

section
/-! PREPARE, KICKOFF and WHISTLE accepted on a device in scope with no worker (R183, R196, R203): each waits in the bridge queue. -/
namespace Sys2Proof.Proofs.KickoffAndWhistle
open Sys2Proof Sys2Proof.Machine Sys2Proof.Proofs.ObjectDictionary

/-- `u` comes of `s` by what a PREPARE, KICKOFF or WHISTLE does on edge E where no worker is in scope: beside the Kickoff and the
Whistle only events and the objects 0x1F00 to 0x1F08 change. -/
structure Arming (s u : State) : Prop where
  straps : u.straps = s.straps := by rfl
  power : u.power = s.power := by rfl
  tbc : u.tbc = s.tbc := by rfl
  link : u.link = s.link := by rfl
  queue : u.queue = s.queue := by rfl
  staging : u.staging = s.staging := by rfl
  tenants : u.tenants = s.tenants := by rfl
  spans : u.spans = s.spans := by rfl
  mem : u.mem = s.mem := by rfl
  pending : u.pending = s.pending := by rfl
  objects : ∀ i j, i < 0x1F00 ∨ 0x1F08 < i → j < 256 → u.getN i j = s.getN i j := by intros; rfl

theorem Arming.refl (s : State) : Arming s s := {}

theorem Arming.trans {s t u : State} (h : Arming s t) (h' : Arming t u) : Arming s u where
  straps := h'.straps.trans h.straps
  power := h'.power.trans h.power
  tbc := h'.tbc.trans h.tbc
  link := h'.link.trans h.link
  queue := h'.queue.trans h.queue
  staging := h'.staging.trans h.staging
  tenants := h'.tenants.trans h.tenants
  spans := h'.spans.trans h.spans
  mem := h'.mem.trans h.mem
  pending := h'.pending.trans h.pending
  objects i j hi hj := (h'.objects i j hi hj).trans (h.objects i j hi hj)

theorem Arming.fromAboveKick {s u : State} (h : Arming s u) : u.fromAboveKick = s.fromAboveKick := by
  simp [State.fromAboveKick, State.mgr, h.straps]

theorem setN_arming {i j : Nat} (s : State) (v : Nat) (hi : 0x1F00 ≤ i) (hi' : i ≤ 0x1F08) (hj : j < 256) : Arming s (s.setN i j v) where
  objects k l hk hl := State.getN_setN_other s i j k l v (by simp only [objKey]; omega)

theorem withKick_arming (s : State) (k : Option Kick) : Arming s { s with kick := k } := {}

theorem withKick_getN (s : State) (k : Option Kick) (i j : Nat) : ({ s with kick := k } : State).getN i j = s.getN i j := rfl

theorem withWhis_arming (s : State) (w : Option Whis) : Arming s { s with whis := w } := {}

theorem event_arming (s : State) (b : Nat) : Arming s (s.event b) := by
  unfold State.event
  dsimp only
  split <;> exact {}

theorem event_getN (s : State) (b i j : Nat) : (s.event b).getN i j = s.getN i j := by
  unfold State.event
  dsimp only
  split <;> rfl

theorem event_kick (s : State) (b : Nat) : (s.event b).kick = s.kick := (event_beside s b).kick

theorem event_whis (s : State) (b : Nat) : (s.event b).whis = s.whis := (event_beside s b).whis

/-! ### Late epochs (R196, R197) -/

/-- A late epoch sets KD_FLAGS.LATE; one in time leaves the flags. -/
theorem koLate_arming (s : State) : Arming s s.koLate :=
  (setN_arming s _ (by omega) (by omega) (by omega)).trans (event_arming _ 12)

@[simp] theorem koLate_kick (s : State) : s.koLate.kick = s.kick := event_kick _ 12

@[simp] theorem koLate_whis (s : State) : s.koLate.whis = s.whis := event_whis _ 12

@[simp] theorem koLate_flag (s : State) : s.koLate.getBit 0x1F03 7 0 = true := by
  simp [State.koLate, State.getBit, event_getN, State.setBit, bitAt_putBit_true]

theorem koLate_getN (s : State) {i j : Nat} (h : objKey i j ≠ objKey 0x1F03 7) : s.koLate.getN i j = s.getN i j := by
  simp [State.koLate, event_getN, State.setBit, State.getN_setN_other _ _ _ _ _ _ h]

/-- The epoch that a request names, or the soonest, by TBC and KO_LEAD alone. -/
theorem epochFor_congr {s u : State} (htbc : u.tbc = s.tbc) (hlead : u.getN 0x1F00 6 = s.getN 0x1F00 6) (v : Nat) (relayed : Bool) :
    u.epochFor (some v) relayed = s.epochFor (some v) relayed := by
  simp [State.epochFor, htbc, hlead]

theorem heard_epochFor (s : State) (f : Frame) (v : Nat) (relayed : Bool) :
    (s.heard f).epochFor (some v) relayed = s.epochFor (some v) relayed :=
  epochFor_congr (s := s) (u := s.heard f) rfl (State.heard_getN s f 0x1F00 6 (by decide)) v relayed

/-! ### A request that waits in the bridge queue (R53) -/

/-- The save that waits behind bridge work may begin; nothing else moves. -/
theorem savePump_frame (s : State) : s.savePump = { s with objs := s.savePump.objs, mtp := s.savePump.mtp } := by
  unfold State.savePump
  split
  · split
    · rfl
    · split <;> rfl
  · rfl

theorem savePump_getN (s : State) {i j : Nat} (h : objKey i j ≠ objKey 0x1510 1) : s.savePump.getN i j = s.getN i j := by
  unfold State.savePump
  split
  · split
    · exact State.getN_setN_other _ _ _ _ _ _ h
    · split
      · exact State.getN_setN_other _ _ _ _ _ _ h
      · rfl
  · rfl

/-- The state with a request's entry last in the bridge queue. -/
def waiting (u : State) (ty : Nat) (f : Frame) (j : Job) : State := ({ u with queue := u.queue ++ [entryOf ty f j] }).savePump

section
variable (u : State) (ty : Nat) (f : Frame) (j : Job)

@[simp] theorem waiting_queue : (waiting u ty f j).queue = u.queue ++ [entryOf ty f j] := by rw [waiting, savePump_frame]
@[simp] theorem waiting_staging : (waiting u ty f j).staging = u.staging := by rw [waiting, savePump_frame]
@[simp] theorem waiting_tenants : (waiting u ty f j).tenants = u.tenants := by rw [waiting, savePump_frame]
@[simp] theorem waiting_straps : (waiting u ty f j).straps = u.straps := by rw [waiting, savePump_frame]
@[simp] theorem waiting_mem : (waiting u ty f j).mem = u.mem := by rw [waiting, savePump_frame]
@[simp] theorem waiting_tbc : (waiting u ty f j).tbc = u.tbc := by rw [waiting, savePump_frame]
@[simp] theorem waiting_pending : (waiting u ty f j).pending = u.pending := by rw [waiting, savePump_frame]
@[simp] theorem waiting_kick : (waiting u ty f j).kick = u.kick := by rw [waiting, savePump_frame]
@[simp] theorem waiting_whis : (waiting u ty f j).whis = u.whis := by rw [waiting, savePump_frame]

theorem waiting_getN {i k : Nat} (h : objKey i k ≠ objKey 0x1510 1) : (waiting u ty f j).getN i k = u.getN i k :=
  savePump_getN _ h

end

theorem entry_eq_entryOf {f : Frame} (hten : f.ten.toNat < 128) (ty : Nat) (j : Job) : Req.entry { ty := ty, f := f } j = entryOf ty f j := by
  simp [Req.entry, entryOf, Req.t, Req.echo, Req.crc, echoOf, Nat.mod_eq_of_lt hten]

theorem noRoom_heard {s : State} {f : Frame} (hten : f.ten.toNat < 128) (hroom : s.HasRoom f) (ty : Nat) :
    (s.heard f).noRoom { ty := ty, f := f } = false := by
  obtain ⟨hall, hmine⟩ := hroom
  have hmine' : ((s.queue.filter (fun e => e.cue.isNone)).filter (fun e => e.ten == f.ten.toNat)).length < 4 := by
    simpa [List.filter_filter, Bool.and_comm] using hmine
  simp [State.noRoom, State.queueRoom, State.hostEntries, Config.queueMax, Config.queueTenantMax, Req.t, Nat.mod_eq_of_lt hten,
    -List.filter_filter]
  omega

theorem heard_kickRight (s : State) (f : Frame) (t : Nat) : (s.heard f).kickRight t = s.kickRight t := by
  simp only [State.kickRight, State.heard_getN s f (0x1380 + t) 4 (by simp only [objKey]; omega)]

/-- A tenant with its session open and the Kickoff right is not denied (R187). -/
theorem kickDenied_heard {s : State} {f : Frame} (hten : f.ten.toNat < 128) (hsession : (s.tenant f.ten.toNat).session = true)
    (hright : s.kickRight f.ten.toNat = true) (ty : Nat) : (s.heard f).kickDenied { ty := ty, f := f } = false := by
  simp [State.kickDenied, Req.t, Nat.mod_eq_of_lt hten, heard_kickRight, hsession, hright]

/-- A request that waits is answered 0x08, and `g` is what its settle edge adds (R53, R45). -/
theorem serve_waits {s u : State} {f : Frame} {ty : Nat} {j : Job} {g : State → State} (h : s.Executes ty f) (hch : changes ty = true)
    (hdo : (s.heard f).doType { ty := ty, f := f } 0 = { u.answerLater { ty := ty, f := f } j with commit := g })
    (hu : Arming (s.heard f) u) :
    s.serve ty f 0 none = ((g (settling (waiting u ty f j) f 8 (echoOf ty f) [])).replayed ty f).clock f.gap := by
  have hst : (u.answerLater { ty := ty, f := f } j).st = waiting u ty f j := by
    rw [waiting, ← entry_eq_entryOf h.tenant]
    rfl
  have hturn : (waiting u ty f j).getN 0x1101 1 = s.getN 0x1101 1 := by
    rw [waiting_getN _ _ _ _ (by decide), hu.objects _ _ (by omega) (by omega), State.heard_turnaround]
  rw [State.serve_answered s ty f 0 h _ hdo rfl (by rw [hst]; exact hturn), hst, answered_eq_settling]
  simp [State.recordReplay, State.replayed, State.answerLater, hch, Req.echo, Req.crc, echoOf]

@[simp] theorem heard_tbc (s : State) (f : Frame) : (s.heard f).tbc = s.tbc := rfl
@[simp] theorem heard_pending (s : State) (f : Frame) : (s.heard f).pending = s.pending := rfl
@[simp] theorem heard_spans (s : State) (f : Frame) : (s.heard f).spans = s.spans := rfl
@[simp] theorem heard_kick (s : State) (f : Frame) : (s.heard f).kick = s.kick := rfl

/-- The state after a request that waits and whose settle edge adds nothing more than the replay record. -/
def waited (u : State) (ty : Nat) (f : Frame) (j : Job) : State :=
  ((settling (waiting u ty f j) f 8 (echoOf ty f) []).replayed ty f).clock f.gap

theorem waited_getN (u : State) (ty : Nat) (f : Frame) (j : Job) {i k : Nat} (h : objKey i k ≠ objKey 0x1510 1) :
    (waited u ty f j).getN i k = u.getN i k := by
  simp [waited, waiting_getN u ty f j h]

theorem waited_kick (u : State) (ty : Nat) (f : Frame) (j : Job) : (waited u ty f j).kick = u.kick := by
  simp [waited]

theorem serve_waited {s u : State} {f : Frame} {ty : Nat} {j : Job} (h : s.Executes ty f) (hch : changes ty = true)
    (hdo : (s.heard f).doType { ty := ty, f := f } 0 = u.answerLater { ty := ty, f := f } j) (hu : Arming (s.heard f) u) :
    s.serve ty f 0 none = waited u ty f j := serve_waits (g := id) h hch hdo hu

/-- A PREPARE or KICKOFF that waits shows what `State.Queued` says. -/
theorem queued_of_arming {s u : State} {f : Frame} {ty : Nat} (hu : Arming (s.heard f) u) (hch : changes ty = true) (j : Job) :
    s.Queued (waited u ty f j) ty f j := by
  simp [State.Queued, waited, hch, hu.queue, hu.staging, hu.tenants, hu.straps, hu.mem, hu.tbc, hu.pending]

/-! ### With no worker in scope -/

theorem scopeNow_nil {s : State} (h : s.spans.members = []) : s.scopeNow = [] := by
  simp [State.scopeNow, State.present, h]

theorem makeRound_nil (s : State) (ty idx sub ten : Nat) (payload : List Byte) : s.makeRound [] ty idx sub ten payload = s := rfl

theorem koMissing_nil {k : Kick} (h : k.scope = []) (s : State) : s.koMissing k = none := by
  simp [State.koMissing, h]

/-! ### PREPARE -/

theorem exec_prepare (f : Frame) (s : State) : exec (.prepare f) s = .next (s.serve 5 f 0 none) := rfl

/-- KO_REFUSAL and the reports of 0x1F03 cleared (R183). -/
def reportsCleared (s : State) : State := (List.range 8).foldl (fun s i => s.setN 0x1F03 (i + 1) 0) (s.setN 0x1F00 3 0)

theorem reportsCleared_arming (s : State) : Arming s (reportsCleared s) :=
  (setN_arming s 0 (by omega) (by omega) (by omega)).trans
    (List.foldlRecOn _ _ (.refl _) (fun t ht i hi => ht.trans (setN_arming t 0 (by omega) (by omega) (by
      have := List.mem_range.mp hi
      omega))))

theorem reportsCleared_getN (s : State) {i j : Nat} (hi : i ≠ 0x1F03) (hj : j < 256) :
    (reportsCleared s).getN i j = (s.setN 0x1F00 3 0).getN i j :=
  List.foldlRecOn (motive := fun t : State => t.getN i j = (s.setN 0x1F00 3 0).getN i j) _ _ rfl (fun t ht k hk => by
    have := List.mem_range.mp hk
    rw [State.getN_setN_other _ _ _ _ _ _ (by simp only [objKey]; omega), ht])

theorem reportsCleared_scopeNow {s : State} (hnone : s.spans.members = []) : (reportsCleared s).scopeNow = [] :=
  scopeNow_nil (by rw [(reportsCleared_arming s).spans, hnone])

/-- With no worker present a Kickoff enters state 1 with this device alone, if KO_SCOPE selects it (R183). -/
theorem koEnter_alone {s : State} (hnone : s.spans.members = []) (t : Nat) (kicked : Bool) (epoch : Option Nat) (relayed : Bool) :
    ∃ n absent, s.koEnter t kicked epoch relayed = ({ (reportsCleared s).setN 0x1F03 6 n with
      kick := some { ten := t, kten := t, kicked := kicked, epoch := epoch, relayed := relayed,
                     selfIn := bitAt ((reportsCleared s).getN 0x1F00 4) 0, absent := absent } }).setN 0x1F00 2 1 := by
  unfold State.koEnter
  simp only [← reportsCleared.eq_def, reportsCleared_scopeNow hnone, makeRound_nil]
  exact ⟨_, _, rfl⟩

/-- What a PREPARE enters of this device alone (R183). -/
theorem koEnter_self {s : State} (hnone : s.spans.members = []) (hself : bitAt (s.getN 0x1F00 4) 0 = true) (t : Nat) (relayed : Bool) :
    Arming s (s.koEnter t false none relayed) ∧ (s.koEnter t false none relayed).koState = 1 ∧
      (s.koEnter t false none relayed).getN 0x1F00 3 = 0 ∧
      ∃ k, (s.koEnter t false none relayed).kick = some k ∧ k.ten = t ∧ k.kicked = false ∧ k.selfIn = true ∧ k.scope = [] ∧
        k.own = none ∧ k.plan = [] := by
  obtain ⟨n, absent, hu⟩ := koEnter_alone hnone t false none relayed
  rw [hu]
  have hclear := reportsCleared_arming s
  have hleft : ∀ j, j < 256 → (reportsCleared s).getN 0x1F00 j = (s.setN 0x1F00 3 0).getN 0x1F00 j := fun j hj =>
    reportsCleared_getN s (by omega) hj
  generalize reportsCleared s = s1 at hclear hleft ⊢
  have hscope : bitAt (s1.getN 0x1F00 4) 0 = true := by
    rw [hleft 4 (by omega), State.getN_setN_other _ _ _ _ _ _ (by decide), hself]
  have hrefusal : (s1.setN 0x1F03 6 n).getN 0x1F00 3 = 0 := by
    rw [State.getN_setN_other _ _ _ _ _ _ (by decide), hleft 3 (by omega), State.getN_setN]
  have hcount := setN_arming s1 n (i := 0x1F03) (j := 6) (by omega) (by omega) (by omega)
  generalize s1.setN 0x1F03 6 n = s2 at hrefusal hcount ⊢
  refine ⟨((hclear.trans hcount).trans (withKick_arming s2 _)).trans (setN_arming _ 1 (by omega) (by omega) (by omega)),
    State.getN_setN _ 0x1F00 2 1, ?_, _, rfl, rfl, rfl, hscope, rfl, rfl, rfl⟩
  rw [State.getN_setN_other _ _ _ _ _ _ (by decide), withKick_getN, hrefusal]

/-- A Kickoff that has this device in scope waits for its own answer. -/
theorem koEmpty_self {s : State} {k : Kick} (hk : s.kick = some k) (hself : k.selfIn = true) : s.koEmpty = s := by
  simp [State.koEmpty, hk, hself]

/-- A PREPARE of this device alone waits, in state 1 (R183). -/
theorem prepare_waits {s : State} {f : Frame} (h : s.Executes 5 f) (hsession : (s.tenant f.ten.toNat).session = true)
    (hright : s.kickRight f.ten.toNat = true) (hroom : s.HasRoom f) (hnone : s.spans.members = [])
    (hself : bitAt (s.getN 0x1F00 4) 0 = true) (hlen : f.len = 0#16) (haccept : s.koAccepts false = true) :
    ∃ t, exec (.prepare f) s = .next t ∧ s.Queued t 5 f .prepare ∧ t.koState = 1 ∧ t.getN 0x1F00 3 = 0 ∧
      ∃ k, t.kick = some k ∧ k.ten = f.ten.toNat ∧ k.kicked = false ∧ k.selfIn = true ∧ k.scope = [] ∧ k.own = none ∧ k.plan = [] := by
  have hself' : bitAt ((s.heard f).getN 0x1F00 4) 0 = true := by rwa [State.heard_getN _ _ _ _ (by decide)]
  obtain ⟨harm, hstate, hrefusal, k, hkick, hten, hkicked, hin, hscope, hown, hplan⟩ :=
    koEnter_self (s := s.heard f) (by simpa using hnone) hself' f.ten.toNat (s.heard f).fromAboveKick
  generalize hu : (s.heard f).koEnter f.ten.toNat false none (s.heard f).fromAboveKick = u at harm hstate hrefusal hkick
  have haccept' : (s.heard f).koAccepts false = true := by
    simpa [State.koAccepts, State.koState, State.heard_getN _ _ 0x1F00 2 (by decide)] using haccept
  have hdo : (s.heard f).doType { ty := 5, f := f } 0 = u.answerLater { ty := 5, f := f } .prepare := by
    show (s.heard f).doPrepare _ = _
    simp [State.doPrepare, kickDenied_heard h.tenant hsession hright, Req.len, hlen, haccept', noRoom_heard h.tenant hroom, Req.t,
      Nat.mod_eq_of_lt h.tenant, State.koPrepare, hu, koEmpty_self hkick hin, State.koEnded, hstate]
  rw [exec_prepare, serve_waited h (by decide) hdo harm]
  refine ⟨_, rfl, queued_of_arming harm (by decide) _, ?_⟩
  exact ⟨(waited_getN u 5 f _ (by decide)).trans hstate, (waited_getN u 5 f _ (by decide)).trans hrefusal, k,
    (waited_kick u 5 f _).trans hkick, hten, hkicked, hin, hscope, hown, hplan⟩

/-! ### KICKOFF of a prepared set -/

theorem exec_kickoff (f : Frame) (s : State) : exec (.kickoff f) s = .next (s.serve 6 f 0 none) := rfl

theorem epochOf_eight {payload : List Byte} (h : payload.length = 8) (standing : Nat) : epochOf payload standing = some (ofBE payload) := by
  simp [epochOf, h]

theorem planOf_ne_nil (s : State) (es : List Staged) (e : Nat) : s.planOf es e ≠ [] := by
  unfold State.planOf
  dsimp only
  split
  · simp
  next h => simpa using h

/-- KO_EPOCH and KD_FLAGS.LATE once an epoch is fixed (R196, R197). -/
def withEpoch (s : State) (k : Kick) (e : Nat × Bool) : State :=
  let t := ({ s with kick := some { k with fixed := some e.1 } }).setN 0x1F00 1 e.1
  if e.2 then t.koLate else t

theorem koFix_kicked {s : State} {k : Kick} (hk : s.kick = some k) (hfixed : k.fixed = none) (hkicked : k.kicked = true)
    (hen : s.power.enabled = true) : s.koFix = withEpoch s k (s.epochFor k.epoch k.relayed) := by
  simp [State.koFix, withEpoch, hk, hfixed, hkicked, hen]

theorem withEpoch_arming (s : State) (k : Kick) (e : Nat × Bool) : Arming s (withEpoch s k e) := by
  have h : Arming s (({ s with kick := some { k with fixed := some e.1 } }).setN 0x1F00 1 e.1) :=
    (withKick_arming s _).trans (setN_arming _ e.1 (by omega) (by omega) (by omega))
  unfold withEpoch
  dsimp only
  split
  · exact h.trans (koLate_arming _)
  · exact h

theorem withEpoch_kick (s : State) (k : Kick) (e : Nat × Bool) : (withEpoch s k e).kick = some { k with fixed := some e.1 } := by
  unfold withEpoch
  dsimp only
  split <;> simp

theorem withEpoch_epoch (s : State) (k : Kick) (e : Nat × Bool) : (withEpoch s k e).getN 0x1F00 1 = e.1 := by
  unfold withEpoch
  dsimp only
  split
  · rw [koLate_getN _ (by decide), State.getN_setN]
  · rw [State.getN_setN]

theorem withEpoch_late (s : State) (k : Kick) (e : Nat × Bool) :
    (withEpoch s k e).getBit 0x1F03 7 0 = (s.getBit 0x1F03 7 0 || e.2) := by
  unfold withEpoch
  dsimp only
  split
  next h => simp [h]
  next h =>
    simp only [State.getBit, State.getN_setN_other _ _ _ _ _ _ (by decide : objKey 0x1F03 7 ≠ objKey 0x1F00 1), withKick_getN]
    simp [h]

/-- Armed with its epoch fixed and no worker in scope, a Kickoff stands in state 3 with its apply points planned (R183, R193). -/
theorem koArm_alone {s : State} {k : Kick} {e : Nat} (hk : s.kick = some k) (hscope : k.scope = []) (hfixed : k.fixed = some e)
    (hlost : k.lost = false) (hsent : k.sent = false) (hen : s.power.enabled = true) :
    s.koArm = { s.setN 0x1F00 2 3 with
      kick := some { k with plan := (s.setN 0x1F00 2 3).planOf ((s.setN 0x1F00 2 3).koEntries k) (max e s.tbc), armed := [],
                            waits := false, sent := true } } := by
  have hfix : (s.setN 0x1F00 2 3).koFix = s.setN 0x1F00 2 3 := by simp [State.koFix, hk, hfixed]
  simp [State.koArm, hk, koMissing_nil hscope, hen, State.koDeliver, hfix, hfixed, hsent, hscope, hlost, makeRound_nil]

/-- A Kickoff whose epoch is fixed and that arms at once, with no worker in scope. -/
theorem koFix_koArm_alone {s : State} {k : Kick} (hk : s.kick = some k) (hscope : k.scope = []) (hkicked : k.kicked = true)
    (hfixed : k.fixed = none) (hlost : k.lost = false) (hsent : k.sent = false) (hen : s.power.enabled = true) :
    let e := s.epochFor k.epoch k.relayed
    let u := s.koFix.koArm
    Arming s u ∧ u.koState = 3 ∧ u.getN 0x1F00 1 = e.1 ∧ u.getBit 0x1F03 7 0 = (s.getBit 0x1F03 7 0 || e.2) ∧
      ∃ k', u.kick = some k' ∧ k'.kicked = true ∧ k'.fixed = some e.1 ∧ k'.sent = true ∧ k'.kten = k.kten ∧ k'.waits = false ∧
        k'.armed = [] ∧ k'.plan ≠ [] := by
  intro e u
  have h1 := withEpoch_arming s k e
  have hkick1 := withEpoch_kick s k e
  have hepoch1 := withEpoch_epoch s k e
  have hlate1 := withEpoch_late s k e
  have hu : u = (withEpoch s k e).koArm := congrArg State.koArm (koFix_kicked hk hfixed hkicked hen)
  generalize withEpoch s k e = s1 at h1 hkick1 hepoch1 hlate1 hu
  rw [koArm_alone hkick1 hscope rfl hlost hsent (by rw [h1.power, hen])] at hu
  have harm : Arming s1 (s1.setN 0x1F00 2 3) := setN_arming s1 3 (by omega) (by omega) (by omega)
  rw [hu]
  refine ⟨(h1.trans harm).trans (withKick_arming _ _), ?state, ?epoch, ?late, _, rfl, hkicked, rfl, rfl, rfl, rfl, rfl, planOf_ne_nil _ _ _⟩
  case state => rw [State.koState, withKick_getN, State.getN_setN]
  case epoch => rw [withKick_getN, State.getN_setN_other _ _ _ _ _ _ (by decide), hepoch1]
  case late => rw [State.getBit, withKick_getN, State.getN_setN_other _ _ _ _ _ _ (by decide), ← State.getBit, hlate1]

/-- A KICKOFF of tenant `t` that names epoch `v` arms a set prepared on this device alone. -/
theorem koKickoff_alone {s : State} {k : Kick} (hstate : s.koState = 2) (hk : s.kick = some k) (hscope : k.scope = [])
    (hfixed : k.fixed = none) (hlost : k.lost = false) (hsent : k.sent = false) (hen : s.power.enabled = true) (t v : Nat) (relayed : Bool) :
    let e := s.epochFor (some v) relayed
    let u := s.koKickoff t (some v) relayed
    Arming s u ∧ u.koState = 3 ∧ u.getN 0x1F00 1 = e.1 ∧ u.getBit 0x1F03 7 0 = (s.getBit 0x1F03 7 0 || e.2) ∧
      ∃ k', u.kick = some k' ∧ k'.kicked = true ∧ k'.fixed = some e.1 ∧ k'.sent = true ∧ k'.kten = t ∧ k'.waits = false ∧
        k'.armed = [] ∧ k'.plan ≠ [] := by
  intro e u
  let s1 : State := { s with kick := some { k with kten := t, kicked := true, epoch := some v, relayed := relayed } }
  have hu : u = s1.koFix.koArm := by simp [u, s1, State.koKickoff, hstate, hk, hlost]
  have he : s1.epochFor (some v) relayed = e := epochFor_congr rfl rfl v relayed
  obtain ⟨harm, h⟩ := koFix_koArm_alone (s := s1) rfl hscope rfl hfixed hlost hsent hen
  rw [← hu] at harm h
  exact ⟨(withKick_arming s _).trans harm, he ▸ h⟩

/-- A KICKOFF of a set prepared on this device alone arms it and waits (R183, R196). -/
theorem kickoff_waits {s : State} {f : Frame} {k : Kick} (h : s.Executes 6 f) (hsession : (s.tenant f.ten.toNat).session = true)
    (hright : s.kickRight f.ten.toNat = true) (hroom : s.HasRoom f) (hen : s.power.enabled = true) (hlen : f.len = 8#16)
    (hstate : s.koState = 2) (hk : s.kick = some k) (hscope : k.scope = []) (hlost : k.lost = false) (hkicked : k.kicked = false)
    (hfixed : k.fixed = none) (hsent : k.sent = false) :
    let e := s.epochFor (some (ofBE f.payload)) false
    ∃ t, exec (.kickoff f) s = .next t ∧ s.Queued t 6 f (.kickoff (some (ofBE f.payload)) false) ∧ t.koState = 3 ∧ t.getN 0x1F00 1 = e.1 ∧
      t.getBit 0x1F03 7 0 = (s.getBit 0x1F03 7 0 || e.2) ∧
      ∃ k', t.kick = some k' ∧ k'.kicked = true ∧ k'.fixed = some e.1 ∧ k'.sent = true ∧ k'.kten = f.ten.toNat ∧
        k'.waits = false ∧ k'.armed = [] ∧ k'.plan ≠ [] := by
  intro e
  have hstate' : (s.heard f).koState = 2 := (State.heard_getN s f _ _ (by decide)).trans hstate
  have hmgr : (s.heard f).fromAboveKick = false := by simp [State.fromAboveKick, h.takes.manager]
  obtain ⟨harm, hko, hepoch, hlate, k', hkick, hkicked', hfixed', hsent', hkten, hwaits, harmed, hplan⟩ :=
    koKickoff_alone hstate' (k := k) (by simpa using hk) hscope hfixed hlost hsent hen f.ten.toNat (ofBE f.payload) false
  generalize hu : (s.heard f).koKickoff f.ten.toNat (some (ofBE f.payload)) false = u at harm hko hepoch hlate hkick
  rw [heard_epochFor] at hepoch hlate hfixed'
  have hmgr' : u.fromAboveKick = false := harm.fromAboveKick.trans hmgr
  have haccept : (s.heard f).koAccepts true = true := by simp [State.koAccepts, hstate', hk, hkicked]
  have hdo : (s.heard f).doType { ty := 6, f := f } 0 =
      u.answerLater { ty := 6, f := f } (.kickoff (some (ofBE f.payload)) false) := by
    show (s.heard f).doKickoff _ = _
    simp [State.doKickoff, kickDenied_heard h.tenant hsession hright, Req.len, hlen, haccept, noRoom_heard h.tenant hroom, Req.t,
      Nat.mod_eq_of_lt h.tenant, epochOf_eight (h.takes.whole.trans (congrArg BitVec.toNat hlen)), hmgr, hmgr', hu, State.koEnded, hko]
  rw [exec_kickoff, serve_waited h (by decide) hdo harm]
  refine ⟨_, rfl, queued_of_arming harm (by decide) _, ?_⟩
  have hflag : (waited u 6 f (.kickoff (some (ofBE f.payload)) false)).getBit 0x1F03 7 0 = (s.getBit 0x1F03 7 0 || e.2) := by
    rw [State.getBit, waited_getN u 6 f _ (by decide), ← State.getBit, hlate, State.getBit, State.heard_getN s f _ _ (by decide),
      ← State.getBit]
  exact ⟨(waited_getN u 6 f _ (by decide)).trans hko, (waited_getN u 6 f _ (by decide)).trans hepoch, hflag, k',
    (waited_kick u 6 f _).trans hkick, hkicked', hfixed', hsent', hkten, hwaits, harmed, hplan⟩

/-! ### WHISTLE -/

theorem exec_whistle (f : Frame) (s : State) : exec (.whistle f) s = .next (s.serve 7 f 0 none) := rfl

theorem withWhis_getN (s : State) (w : Option Whis) (i j : Nat) : ({ s with whis := w } : State).getN i j = s.getN i j := rfl

/-- WH_EPOCH once a Whistle's epoch is known, with the Whistle as `w` and KD_FLAGS.LATE where it is late. -/
def withWhistle (s : State) (w : Whis) (e : Nat × Bool) : State :=
  let t : State := { s.setN 0x1F08 1 e.1 with whis := some w }
  if e.2 then t.koLate else t

theorem withWhistle_arming (s : State) (w : Whis) (e : Nat × Bool) : Arming s (withWhistle s w e) := by
  have h : Arming s { s.setN 0x1F08 1 e.1 with whis := some w } :=
    (setN_arming s e.1 (by omega) (by omega) (by omega)).trans (withWhis_arming _ _)
  unfold withWhistle
  dsimp only
  split
  · exact h.trans (koLate_arming _)
  · exact h

theorem withWhistle_getN (s : State) (w : Whis) (e : Nat × Bool) {i j : Nat} (h : objKey i j ≠ objKey 0x1F03 7) :
    (withWhistle s w e).getN i j = (s.setN 0x1F08 1 e.1).getN i j := by
  unfold withWhistle
  dsimp only
  split
  · rw [koLate_getN _ h, withWhis_getN]
  · rw [withWhis_getN]

theorem withWhistle_kick (s : State) (w : Whis) (e : Nat × Bool) : (withWhistle s w e).kick = s.kick := by
  unfold withWhistle
  dsimp only
  split <;> simp

theorem withWhistle_whis (s : State) (w : Whis) (e : Nat × Bool) : (withWhistle s w e).whis = some w := by
  unfold withWhistle
  dsimp only
  split <;> simp

/-- A Whistle is delivered to this device alone. -/
theorem whDeliver_alone {s : State} {w : Whis} (hnone : s.spans.members = []) (hsent : w.sent = false) :
    ∃ plan, s.whDeliver w = withWhistle s { w with plan := plan, armed := [], waits := false, lost := false, sent := true }
      (s.epochFor w.epoch w.relayed) := by
  have hscope : ∀ e, (s.setN 0x1F08 1 e).scopeNow = [] := fun e => scopeNow_nil hnone
  unfold State.whDeliver withWhistle
  simp only [hsent, Bool.false_eq_true, if_false, hscope, makeRound_nil]
  exact ⟨_, rfl⟩

/-- A WHISTLE that names epoch `v` arms on this device alone (R203). -/
theorem whEnter_alone {s : State} (hnone : s.spans.members = []) (hen : s.power.enabled = true) (t v : Nat) (relayed : Bool) :
    let e := s.epochFor (some v) relayed
    let u := s.whEnter t (some v) relayed
    Arming s u ∧ u.whState = 1 ∧ u.getN 0x1F08 1 = e.1 ∧ u.getN 0x1F00 4 = s.getN 0x1F00 4 ∧ u.kick = s.kick ∧
      ∃ w, u.whis = some w ∧ w.waits = false := by
  intro e u
  let w : Whis := { ten := t, epoch := some v, relayed := relayed, waits := true }
  let s1 : State := ({ s with whis := some w }).setN 0x1F08 2 1
  have hu : u = s1.whDeliver w := if_pos hen
  have h1 : Arming s s1 := (withWhis_arming s _).trans (setN_arming _ 1 (by omega) (by omega) (by omega))
  have hstate : s1.getN 0x1F08 2 = 1 := State.getN_setN _ 0x1F08 2 1
  have hkept : ∀ {j}, j < 256 → s1.getN 0x1F00 j = s.getN 0x1F00 j := fun hj =>
    (State.getN_setN_other _ _ _ _ _ _ (by simp only [objKey]; omega)).trans (withWhis_getN s _ _ _)
  have hkick : s1.kick = s.kick := rfl
  have he : s1.epochFor w.epoch w.relayed = e := epochFor_congr h1.tbc (hkept (by omega)) v relayed
  clear_value s1
  obtain ⟨plan, hdeliver⟩ := whDeliver_alone (s := s1) (w := w) (by rw [h1.spans, hnone]) rfl
  rw [he] at hdeliver
  rw [hu, hdeliver]
  refine ⟨h1.trans (withWhistle_arming _ _ _), ?state, ?epoch, ?scope, (withWhistle_kick _ _ _).trans hkick, _, withWhistle_whis _ _ _, rfl⟩
  case state => rw [State.whState, withWhistle_getN _ _ _ (by decide), State.getN_setN_other _ _ _ _ _ _ (by decide), hstate]
  case epoch => rw [withWhistle_getN _ _ _ (by decide), State.getN_setN]
  case scope => rw [withWhistle_getN _ _ _ (by decide), State.getN_setN_other _ _ _ _ _ _ (by decide), hkept (by omega)]

/-! ### The entries of a Whistle leave the staging store (R203) -/

theorem carriedBy_congr {s t : State} (h : t.staging = s.staging) (ten : Nat) : t.carriedBy ten = s.carriedBy ten := by
  simp [State.carriedBy, h]

/-- The Whistle class asks of the configuration only which layers are assigned. -/
theorem whClass_congr {s t : State} (h : ∀ i, 0x2300 ≤ i → t.getN i 1 = s.getN i 1) : t.whClass = s.whClass := by
  funext x
  unfold State.whClass
  split
  · rfl
  · split
    next hi => rw [h _ (by simp [inRange] at hi; omega)]
    next =>
      split
      next hi => rw [h _ (by simp [inRange] at hi; omega)]
      next => rfl

theorem whTake_frame (s : State) (t : Nat) : s.whTake t = { s with staging := (s.whTake t).staging, whis := (s.whTake t).whis } := by
  unfold State.whTake
  split <;> rfl

section
variable (s : State) (t : Nat)

@[simp] theorem whTake_queue : (s.whTake t).queue = s.queue := by rw [whTake_frame]
@[simp] theorem whTake_link : (s.whTake t).link = s.link := by rw [whTake_frame]
@[simp] theorem whTake_kick : (s.whTake t).kick = s.kick := by rw [whTake_frame]
@[simp] theorem whTake_mem : (s.whTake t).mem = s.mem := by rw [whTake_frame]
@[simp] theorem whTake_getN (i j : Nat) : (s.whTake t).getN i j = s.getN i j := by rw [whTake_frame]; rfl

end

theorem whTake_entries {s : State} {w : Whis} (hw : s.whis = some w) (hself : bitAt (s.getN 0x1F00 4) 0 = true) (t : Nat) :
    (s.whTake t).staging = s.staging.filter (fun x => !((s.carriedBy t).filter s.whClass).contains x) ∧
      ∃ w', (s.whTake t).whis = some w' ∧ w'.entries = (s.carriedBy t).filter s.whClass ∧ w'.waits = w.waits := by
  simp [State.whTake, hw, hself]

/-- What the settle edge of a WHISTLE finds to take is what its frame found. -/
theorem settling_whistleEntries {s u : State} {f : Frame} (harm : Arming (s.heard f) u) (j : Job) (t : Nat) :
    ((settling (waiting u 7 f j) f 8 (echoOf 7 f) []).carriedBy t).filter (settling (waiting u 7 f j) f 8 (echoOf 7 f) []).whClass =
      (s.carriedBy t).filter s.whClass := by
  have hclass : ∀ i, 0x2300 ≤ i → (settling (waiting u 7 f j) f 8 (echoOf 7 f) []).getN i 1 = s.getN i 1 := fun i hi => by
    rw [settling_getN, waiting_getN _ _ _ _ (by simp only [objKey]; omega), harm.objects i 1 (by omega) (by omega),
      State.heard_getN s f i 1 (by simp only [objKey]; omega)]
  rw [carriedBy_congr (s := s) (by simp [harm.staging]), whClass_congr hclass]

/-- A WHISTLE of this device alone arms, waits, and takes its entries at the settle edge (R203, R204). -/
theorem whistle_waits {s : State} {f : Frame} (h : s.Executes 7 f) (hsession : (s.tenant f.ten.toNat).session = true)
    (hright : s.kickRight f.ten.toNat = true) (hroom : s.HasRoom f) (hen : s.power.enabled = true) (hnone : s.spans.members = [])
    (hself : bitAt (s.getN 0x1F00 4) 0 = true) (hlen : f.len = 8#16) (haccept : s.whAccepts = true) :
    let e := s.epochFor (some (ofBE f.payload)) false
    let es := (s.carriedBy f.ten.toNat).filter s.whClass
    ∃ t, exec (.whistle f) s = .next t ∧ t.queue = s.queue ++ [entryOf 7 f (.whistle (some (ofBE f.payload)) false)] ∧
      t.link.resp = some { status := 8, echo := echoOf 7 f, payload := [], full := true } ∧ t.whState = 1 ∧ t.getN 0x1F08 1 = e.1 ∧
      t.staging = s.staging.filter (fun x => !es.contains x) ∧ t.kick = s.kick ∧ t.mem = s.mem ∧
      ∃ w, t.whis = some w ∧ w.entries = es ∧ w.waits = false := by
  intro e es
  have hmgr : (s.heard f).fromAboveKick = false := by simp [State.fromAboveKick, h.takes.manager]
  obtain ⟨harm, hstate, hepoch, hscope, hkick, w, hw, hwaits⟩ :=
    whEnter_alone (s := s.heard f) (by simpa using hnone) hen f.ten.toNat (ofBE f.payload) false
  generalize hu : (s.heard f).whEnter f.ten.toNat (some (ofBE f.payload)) false = u at harm hstate hepoch hscope hkick hw
  rw [heard_epochFor] at hepoch
  rw [State.heard_getN _ _ _ _ (by decide)] at hscope
  have haccept' : (s.heard f).whAccepts = true := by
    simpa [State.whAccepts, State.koState, State.whState, State.heard_getN _ _ 0x1F00 2 (by decide),
      State.heard_getN _ _ 0x1F08 2 (by decide)] using haccept
  have hdo : (s.heard f).doType { ty := 7, f := f } 0 = { u.answerLater { ty := 7, f := f } (.whistle (some (ofBE f.payload)) false) with
      commit := fun t => t.whTake f.ten.toNat } := by
    show (s.heard f).doWhistle _ = _
    simp [State.doWhistle, kickDenied_heard h.tenant hsession hright, Req.len, hlen, haccept', noRoom_heard h.tenant hroom, Req.t,
      Nat.mod_eq_of_lt h.tenant, epochOf_eight (h.takes.whole.trans (congrArg BitVec.toNat hlen)), hmgr, hu]
  have hes := settling_whistleEntries harm (.whistle (some (ofBE f.payload)) false) f.ten.toNat
  have hkept : ∀ {i k}, objKey i k ≠ objKey 0x1510 1 → (waiting u 7 f (.whistle (some (ofBE f.payload)) false)).getN i k = u.getN i k :=
    waiting_getN u 7 f _
  obtain ⟨hstaging, w', hw', hentries, hwaits'⟩ := whTake_entries
    (s := settling (waiting u 7 f (.whistle (some (ofBE f.payload)) false)) f 8 (echoOf 7 f) []) (w := w) (by simp [hw])
    (by rw [settling_getN, hkept (by decide), hscope, hself]) f.ten.toNat
  rw [exec_whistle, serve_waits h (by decide) hdo harm]
  refine ⟨_, rfl, ?_⟩
  rw [hes] at hstaging hentries
  have hstate' : u.getN 0x1F08 2 = 1 := hstate
  simp [State.whState, hkept (by decide : objKey 0x1F08 2 ≠ objKey 0x1510 1), hkept (by decide : objKey 0x1F08 1 ≠ objKey 0x1510 1),
    hstate', hepoch, hstaging, hw', hentries, hwaits', hwaits, harm.staging, harm.queue, harm.mem, hkick, e, es]

/-- Settles O52: with no worker in scope each of the three is taken up by this device alone on edge E and waits in the bridge queue. -/
theorem preparesKickoffsAndWhistlesAreAccepted : Obligations.PreparesKickoffsAndWhistlesAreAccepted := by
  unfold Obligations.PreparesKickoffsAndWhistlesAreAccepted
  intro ty f s h hsession hright hroom _ hen _ hnone hself
  refine ⟨?prepare, ?kickoff, ?whistle⟩
  case prepare =>
    rintro rfl hlen haccept
    exact prepare_waits h hsession hright hroom hnone hself hlen haccept
  case kickoff =>
    rintro rfl hlen k hstate hk hscope hlost hkicked hfixed hsent
    exact kickoff_waits h hsession hright hroom hen hlen hstate hk hscope hlost hkicked hfixed hsent
  case whistle =>
    rintro rfl hlen haccept
    exact whistle_waits h hsession hright hroom hen hnone hself hlen haccept

end Sys2Proof.Proofs.KickoffAndWhistle
end
